-- ==== Sys2Proof/Config.lean ====
section
/-!
DEFINITION. The constants the spec fixes for every MFHD (00_scope.md R7). Nothing is left to an
implementation but `ADDR_W`, which the model does not need: offsets and counts are unbounded
natural numbers (R7, 43_sequencer.md R318, assumption 1). A statement about a width takes it as an argument.
-/

namespace Sys2Proof

/-- `HEADER_BITS`: the header is always 32 bits (00_scope.md R7, 30_encoding.md R119). -/
abbrev Config.headerBits : Nat := 32

/-- `HEADER_BYTES`, "the minimum header size" (00_scope.md R7). -/
abbrev Config.headerBytes : Nat := 4

/-- `SYNC_VALUE`: eleven ones (00_scope.md R7, 30_encoding.md R100). -/
abbrev Config.syncValue : BitVec 11 := 0x7FF#11

/-- `LEN_NUMERATOR` (00_scope.md R7, 41_sync_and_length.md R184). -/
abbrev Config.lenNumerator : Nat := 144000

/-- The longest frame there is, in bytes (41_sync_and_length.md R186). -/
abbrev Config.maxFrameBytes : Nat := 1441

end Sys2Proof
end

