-- ==== Sys2Proof/Word.lean ====
section
/-!
DEFINITION. The two word types of MFHD: a byte of the source buffer (20_memory.md R60) and a 32-bit
header word (00_scope.md R8). Offsets, lengths and counts are natural numbers (R9, assumption 1).
-/

namespace Sys2Proof

/-- A byte of the source buffer; bit 7 is the first in stream order (20_memory.md R64). -/
abbrev Byte := BitVec 8

/-- A header word; bit 31 is the first bit of the header in stream order (00_scope.md R8). -/
abbrev Word := BitVec 32

end Sys2Proof
end

