-- ==== Sys2Proof/Syntax.lean ====
section
/-!
DEFINITION. The syntax of header words: the fifteen operand bits, one constructor of `Instr` for
each of the 72 rows of spec/opcode_table.json (30_encoding.md R110), the names of the enumerated
field values (R94 to R97) and the notation `HDR(...)` (R120).
-/

namespace Sys2Proof

/-- The fifteen operand bits of a word with good sync (42_header_classes.md, "Template"): they do
not select the class, they are copied to the outputs. -/
structure OperandBits where
  versionId        : BitVec 2
  layer            : BitVec 2
  protectionAbsent : Bool
  padding          : Bool
  privateBit       : Bool
  channelMode      : BitVec 2
  modeExtension    : BitVec 2
  copyright        : Bool
  original         : Bool
  emphasis         : BitVec 2
  deriving DecidableEq, Repr

/-- The header classes. A `badsyncZ<b>` row carries the number its ignored bits below bit `b` make
(they mean nothing to MFHD, 42_header_classes.md R210; assumption 12); every other row carries its
operand bits, and `rsvbr` the free `sample_rate_index` too (30_encoding.md R112). -/
inductive Instr where
  | badsyncZ31 (rest : Nat)
  | badsyncZ30 (rest : Nat)
  | badsyncZ29 (rest : Nat)
  | badsyncZ28 (rest : Nat)
  | badsyncZ27 (rest : Nat)
  | badsyncZ26 (rest : Nat)
  | badsyncZ25 (rest : Nat)
  | badsyncZ24 (rest : Nat)
  | badsyncZ23 (rest : Nat)
  | badsyncZ22 (rest : Nat)
  | badsyncZ21 (rest : Nat)
  | rsvbr (sampleRateIndex : BitVec 2) (f : OperandBits)
  | rsvsrBr0 (f : OperandBits)
  | rsvsrBr1 (f : OperandBits)
  | rsvsrBr2 (f : OperandBits)
  | rsvsrBr3 (f : OperandBits)
  | rsvsrBr4 (f : OperandBits)
  | rsvsrBr5 (f : OperandBits)
  | rsvsrBr6 (f : OperandBits)
  | rsvsrBr7 (f : OperandBits)
  | rsvsrBr8 (f : OperandBits)
  | rsvsrBr9 (f : OperandBits)
  | rsvsrBr10 (f : OperandBits)
  | rsvsrBr11 (f : OperandBits)
  | rsvsrBr12 (f : OperandBits)
  | rsvsrBr13 (f : OperandBits)
  | rsvsrBr14 (f : OperandBits)
  | freeSr0 (f : OperandBits)
  | freeSr1 (f : OperandBits)
  | freeSr2 (f : OperandBits)
  | br1Sr0 (f : OperandBits)
  | br1Sr1 (f : OperandBits)
  | br1Sr2 (f : OperandBits)
  | br2Sr0 (f : OperandBits)
  | br2Sr1 (f : OperandBits)
  | br2Sr2 (f : OperandBits)
  | br3Sr0 (f : OperandBits)
  | br3Sr1 (f : OperandBits)
  | br3Sr2 (f : OperandBits)
  | br4Sr0 (f : OperandBits)
  | br4Sr1 (f : OperandBits)
  | br4Sr2 (f : OperandBits)
  | br5Sr0 (f : OperandBits)
  | br5Sr1 (f : OperandBits)
  | br5Sr2 (f : OperandBits)
  | br6Sr0 (f : OperandBits)
  | br6Sr1 (f : OperandBits)
  | br6Sr2 (f : OperandBits)
  | br7Sr0 (f : OperandBits)
  | br7Sr1 (f : OperandBits)
  | br7Sr2 (f : OperandBits)
  | br8Sr0 (f : OperandBits)
  | br8Sr1 (f : OperandBits)
  | br8Sr2 (f : OperandBits)
  | br9Sr0 (f : OperandBits)
  | br9Sr1 (f : OperandBits)
  | br9Sr2 (f : OperandBits)
  | br10Sr0 (f : OperandBits)
  | br10Sr1 (f : OperandBits)
  | br10Sr2 (f : OperandBits)
  | br11Sr0 (f : OperandBits)
  | br11Sr1 (f : OperandBits)
  | br11Sr2 (f : OperandBits)
  | br12Sr0 (f : OperandBits)
  | br12Sr1 (f : OperandBits)
  | br12Sr2 (f : OperandBits)
  | br13Sr0 (f : OperandBits)
  | br13Sr1 (f : OperandBits)
  | br13Sr2 (f : OperandBits)
  | br14Sr0 (f : OperandBits)
  | br14Sr1 (f : OperandBits)
  | br14Sr2 (f : OperandBits)
  deriving DecidableEq, Repr

/-- The values of `version_id` by name (30_encoding.md R94). -/
inductive MpegVersion where
  | mpeg25 | reserved | mpeg2 | mpeg1
  deriving DecidableEq, Repr

/-- The values of `layer` by name (30_encoding.md R95). -/
inductive MpegLayer where
  | reserved | layerIII | layerII | layerI
  deriving DecidableEq, Repr

/-- The values of `channel_mode` by name (30_encoding.md R96). -/
inductive ChannelMode where
  | stereo | jointStereo | dualChannel | mono
  deriving DecidableEq, Repr

/-- The values of `emphasis` by name (30_encoding.md R97). -/
inductive Emphasis where
  | none | us50_15 | reserved | ccittJ17
  deriving DecidableEq, Repr

/-- The arguments of the constructor notation `HDR(ver, lay, prot, br, sr, pad, priv, cm, mx, copy,
orig, emph)`, each a number (30_encoding.md R120); an omitted trailing argument is 0. -/
structure HdrArgs where
  ver  : Nat
  lay  : Nat
  prot : Nat := 0
  br   : Nat := 0
  sr   : Nat := 0
  pad  : Nat := 0
  priv : Nat := 0
  cm   : Nat := 0
  mx   : Nat := 0
  copy : Nat := 0
  orig : Nat := 0
  emph : Nat := 0
  deriving DecidableEq, Repr

end Sys2Proof
end

