-- ==== Sys2Proof/WellFormed.lean ====
section
/-!
DEFINITION. Well-formedness of the syntax: the ignored bits of a `badsyncZ<b>` row fit below bit
`b` (30_encoding.md R111), and each argument of `HDR(...)` is "a number within its field's width"
(R120). The operand bits of every other row have their width in their type (R90), so those rows
have nothing to check.
-/

namespace Sys2Proof

/-- Every operand of `i` fits its field of the opcode table's row (30_encoding.md R110 to R115). -/
def Instr.wellFormed : Instr → Bool
  | .badsyncZ31 rest => decide (rest < 2 ^ 31)
  | .badsyncZ30 rest => decide (rest < 2 ^ 30)
  | .badsyncZ29 rest => decide (rest < 2 ^ 29)
  | .badsyncZ28 rest => decide (rest < 2 ^ 28)
  | .badsyncZ27 rest => decide (rest < 2 ^ 27)
  | .badsyncZ26 rest => decide (rest < 2 ^ 26)
  | .badsyncZ25 rest => decide (rest < 2 ^ 25)
  | .badsyncZ24 rest => decide (rest < 2 ^ 24)
  | .badsyncZ23 rest => decide (rest < 2 ^ 23)
  | .badsyncZ22 rest => decide (rest < 2 ^ 22)
  | .badsyncZ21 rest => decide (rest < 2 ^ 21)
  | .rsvbr _ _ => true
  | .rsvsrBr0 _ => true
  | .rsvsrBr1 _ => true
  | .rsvsrBr2 _ => true
  | .rsvsrBr3 _ => true
  | .rsvsrBr4 _ => true
  | .rsvsrBr5 _ => true
  | .rsvsrBr6 _ => true
  | .rsvsrBr7 _ => true
  | .rsvsrBr8 _ => true
  | .rsvsrBr9 _ => true
  | .rsvsrBr10 _ => true
  | .rsvsrBr11 _ => true
  | .rsvsrBr12 _ => true
  | .rsvsrBr13 _ => true
  | .rsvsrBr14 _ => true
  | .freeSr0 _ => true
  | .freeSr1 _ => true
  | .freeSr2 _ => true
  | .br1Sr0 _ => true | .br1Sr1 _ => true | .br1Sr2 _ => true
  | .br2Sr0 _ => true | .br2Sr1 _ => true | .br2Sr2 _ => true
  | .br3Sr0 _ => true | .br3Sr1 _ => true | .br3Sr2 _ => true
  | .br4Sr0 _ => true | .br4Sr1 _ => true | .br4Sr2 _ => true
  | .br5Sr0 _ => true | .br5Sr1 _ => true | .br5Sr2 _ => true
  | .br6Sr0 _ => true | .br6Sr1 _ => true | .br6Sr2 _ => true
  | .br7Sr0 _ => true | .br7Sr1 _ => true | .br7Sr2 _ => true
  | .br8Sr0 _ => true | .br8Sr1 _ => true | .br8Sr2 _ => true
  | .br9Sr0 _ => true | .br9Sr1 _ => true | .br9Sr2 _ => true
  | .br10Sr0 _ => true | .br10Sr1 _ => true | .br10Sr2 _ => true
  | .br11Sr0 _ => true | .br11Sr1 _ => true | .br11Sr2 _ => true
  | .br12Sr0 _ => true | .br12Sr1 _ => true | .br12Sr2 _ => true
  | .br13Sr0 _ => true | .br13Sr1 _ => true | .br13Sr2 _ => true
  | .br14Sr0 _ => true | .br14Sr1 _ => true | .br14Sr2 _ => true

/-- Each argument of the notation is within its field's width (30_encoding.md R120, R90). -/
def HdrArgs.wellFormed (a : HdrArgs) : Bool :=
  decide (a.ver < 4) && decide (a.lay < 4) && decide (a.prot < 2) && decide (a.br < 16) &&
  decide (a.sr < 4) && decide (a.pad < 2) && decide (a.priv < 2) && decide (a.cm < 4) &&
  decide (a.mx < 4) && decide (a.copy < 2) && decide (a.orig < 2) && decide (a.emph < 4)

end Sys2Proof
end

