-- ==== Sys2Proof/Decode.lean ====
section
/-!
DEFINITION. From bits to header classes and back: the thirteen field extractions `X.*`
(40_header_decode.md R131 to R143), the big-endian assembly of a word (20_memory.md R63), the
decoder (30_encoding.md R110), the opcode table's match and mask of each row (R111 to R115), the
encoder, and the notation `HDR(...)` (R120).
-/

namespace Sys2Proof

/-! ## Field extraction -/

/-- `X.SYNC`, bits 31:21 (40_header_decode.md R131). -/
def xSync (w : Word) : BitVec 11 := w.extractLsb' 21 11
/-- `X.VER`, bits 20:19 (R132). -/
def xVer (w : Word) : BitVec 2 := w.extractLsb' 19 2
/-- `X.LAYER`, bits 18:17 (R133). -/
def xLayer (w : Word) : BitVec 2 := w.extractLsb' 17 2
/-- `X.PROT`, bit 16 (R134). -/
def xProt (w : Word) : Bool := w.getLsbD 16
/-- `X.BRIDX`, bits 15:12 (R135). -/
def xBridx (w : Word) : BitVec 4 := w.extractLsb' 12 4
/-- `X.SRIDX`, bits 11:10 (R136). -/
def xSridx (w : Word) : BitVec 2 := w.extractLsb' 10 2
/-- `X.PAD`, bit 9 (R137). -/
def xPad (w : Word) : Bool := w.getLsbD 9
/-- `X.PRIV`, bit 8 (R138). -/
def xPriv (w : Word) : Bool := w.getLsbD 8
/-- `X.CHMODE`, bits 7:6 (R139). -/
def xChmode (w : Word) : BitVec 2 := w.extractLsb' 6 2
/-- `X.MODEXT`, bits 5:4 (R140). -/
def xModext (w : Word) : BitVec 2 := w.extractLsb' 4 2
/-- `X.COPY`, bit 3 (R141). -/
def xCopy (w : Word) : Bool := w.getLsbD 3
/-- `X.ORIG`, bit 2 (R142). -/
def xOrig (w : Word) : Bool := w.getLsbD 2
/-- `X.EMPH`, bits 1:0 (R143). -/
def xEmph (w : Word) : BitVec 2 := w.extractLsb' 0 2

/-- The fifteen operand bits of a word (30_encoding.md R110). -/
def operandBitsOf (w : Word) : OperandBits where
  versionId := xVer w
  layer := xLayer w
  protectionAbsent := xProt w
  padding := xPad w
  privateBit := xPriv w
  channelMode := xChmode w
  modeExtension := xModext w
  copyright := xCopy w
  original := xOrig w
  emphasis := xEmph w

/-! ## Words and bytes -/

/-- Four bytes, the first the most significant (20_memory.md R63). -/
def assemble (b0 b1 b2 b3 : Byte) : Word :=
  BitVec.ofNat 32 (b0.toNat * 2 ^ 24 + b1.toNat * 2 ^ 16 + b2.toNat * 2 ^ 8 + b3.toNat)

/-- Byte `k` of a header word in buffer order, `k = 0` the most significant (20_memory.md R63). -/
def wordByte (w : Word) (k : Nat) : Byte := BitVec.ofNat 8 (w.toNat / 2 ^ (8 * (3 - k)))

/-- A header word as it lies in the buffer. -/
def wordBytes (w : Word) : List Byte := [wordByte w 0, wordByte w 1, wordByte w 2, wordByte w 3]

/-! ## The decoder -/

/-- A BadSync word's row: the highest cleared bit among bits 31:21 (30_encoding.md R111). -/
def decodeBadSync (w : Word) : Instr :=
  if w.getLsbD 31 = false then .badsyncZ31 (w.toNat % 2 ^ 31)
  else if w.getLsbD 30 = false then .badsyncZ30 (w.toNat % 2 ^ 30)
  else if w.getLsbD 29 = false then .badsyncZ29 (w.toNat % 2 ^ 29)
  else if w.getLsbD 28 = false then .badsyncZ28 (w.toNat % 2 ^ 28)
  else if w.getLsbD 27 = false then .badsyncZ27 (w.toNat % 2 ^ 27)
  else if w.getLsbD 26 = false then .badsyncZ26 (w.toNat % 2 ^ 26)
  else if w.getLsbD 25 = false then .badsyncZ25 (w.toNat % 2 ^ 25)
  else if w.getLsbD 24 = false then .badsyncZ24 (w.toNat % 2 ^ 24)
  else if w.getLsbD 23 = false then .badsyncZ23 (w.toNat % 2 ^ 23)
  else if w.getLsbD 22 = false then .badsyncZ22 (w.toNat % 2 ^ 22)
  else .badsyncZ21 (w.toNat % 2 ^ 21)

/-- Choice by `sample_rate_index`; the fourth is the reserved index 3 (30_encoding.md R105). -/
def bySampleRate (sri : BitVec 2) (i0 i1 i2 i3 : Instr) : Instr :=
  if sri = 0#2 then i0 else if sri = 1#2 then i1 else if sri = 2#2 then i2 else i3

/-- The row of a word with good sync, by `bitrate_index` and then `sample_rate_index`
(30_encoding.md R112 to R115). -/
def decodeSynced (bri : BitVec 4) (sri : BitVec 2) (f : OperandBits) : Instr :=
  if bri = 0#4 then bySampleRate sri (.freeSr0 f) (.freeSr1 f) (.freeSr2 f) (.rsvsrBr0 f)
  else if bri = 1#4 then bySampleRate sri (.br1Sr0 f) (.br1Sr1 f) (.br1Sr2 f) (.rsvsrBr1 f)
  else if bri = 2#4 then bySampleRate sri (.br2Sr0 f) (.br2Sr1 f) (.br2Sr2 f) (.rsvsrBr2 f)
  else if bri = 3#4 then bySampleRate sri (.br3Sr0 f) (.br3Sr1 f) (.br3Sr2 f) (.rsvsrBr3 f)
  else if bri = 4#4 then bySampleRate sri (.br4Sr0 f) (.br4Sr1 f) (.br4Sr2 f) (.rsvsrBr4 f)
  else if bri = 5#4 then bySampleRate sri (.br5Sr0 f) (.br5Sr1 f) (.br5Sr2 f) (.rsvsrBr5 f)
  else if bri = 6#4 then bySampleRate sri (.br6Sr0 f) (.br6Sr1 f) (.br6Sr2 f) (.rsvsrBr6 f)
  else if bri = 7#4 then bySampleRate sri (.br7Sr0 f) (.br7Sr1 f) (.br7Sr2 f) (.rsvsrBr7 f)
  else if bri = 8#4 then bySampleRate sri (.br8Sr0 f) (.br8Sr1 f) (.br8Sr2 f) (.rsvsrBr8 f)
  else if bri = 9#4 then bySampleRate sri (.br9Sr0 f) (.br9Sr1 f) (.br9Sr2 f) (.rsvsrBr9 f)
  else if bri = 10#4 then bySampleRate sri (.br10Sr0 f) (.br10Sr1 f) (.br10Sr2 f) (.rsvsrBr10 f)
  else if bri = 11#4 then bySampleRate sri (.br11Sr0 f) (.br11Sr1 f) (.br11Sr2 f) (.rsvsrBr11 f)
  else if bri = 12#4 then bySampleRate sri (.br12Sr0 f) (.br12Sr1 f) (.br12Sr2 f) (.rsvsrBr12 f)
  else if bri = 13#4 then bySampleRate sri (.br13Sr0 f) (.br13Sr1 f) (.br13Sr2 f) (.rsvsrBr13 f)
  else if bri = 14#4 then bySampleRate sri (.br14Sr0 f) (.br14Sr1 f) (.br14Sr2 f) (.rsvsrBr14 f)
  else .rsvbr sri f

/-- The header class of a word, with its operands (30_encoding.md R110): total on all words. -/
def decode (w : Word) : Instr :=
  if xSync w = Config.syncValue then decodeSynced (xBridx w) (xSridx w) (operandBitsOf w)
  else decodeBadSync w

/-- Why bytes hold no header: "fewer than 32 bits remain" (43_sequencer.md R301). Every four bytes
hold one (30_encoding.md R116). -/
inductive DecodeReject where
  | truncatedHeader
  deriving DecidableEq, Repr

/-- The header at the front of a list of bytes, and the bytes after it. -/
def decodeBytes : List Byte → Except DecodeReject (Instr × List Byte)
  | b0 :: b1 :: b2 :: b3 :: rest => .ok (decode (assemble b0 b1 b2 b3), rest)
  | _ => .error .truncatedHeader

/-! ## The opcode table and the encoder -/

/-- What a constructor stands for: a BadSync row with its first zero bit and the bits below it, or
a word with good sync by its two indices and operand bits. -/
inductive ClassFields where
  | badSync (zeroBit rest : Nat)
  | synced (bri : BitVec 4) (sri : BitVec 2) (f : OperandBits)
  deriving DecidableEq, Repr

/-- The indices each constructor's name spells out (30_encoding.md R111 to R115). -/
def Instr.classFields : Instr → ClassFields
  | .badsyncZ31 rest => .badSync 31 rest
  | .badsyncZ30 rest => .badSync 30 rest
  | .badsyncZ29 rest => .badSync 29 rest
  | .badsyncZ28 rest => .badSync 28 rest
  | .badsyncZ27 rest => .badSync 27 rest
  | .badsyncZ26 rest => .badSync 26 rest
  | .badsyncZ25 rest => .badSync 25 rest
  | .badsyncZ24 rest => .badSync 24 rest
  | .badsyncZ23 rest => .badSync 23 rest
  | .badsyncZ22 rest => .badSync 22 rest
  | .badsyncZ21 rest => .badSync 21 rest
  | .rsvbr sri f => .synced 15#4 sri f
  | .rsvsrBr0 f => .synced 0#4 3#2 f
  | .rsvsrBr1 f => .synced 1#4 3#2 f
  | .rsvsrBr2 f => .synced 2#4 3#2 f
  | .rsvsrBr3 f => .synced 3#4 3#2 f
  | .rsvsrBr4 f => .synced 4#4 3#2 f
  | .rsvsrBr5 f => .synced 5#4 3#2 f
  | .rsvsrBr6 f => .synced 6#4 3#2 f
  | .rsvsrBr7 f => .synced 7#4 3#2 f
  | .rsvsrBr8 f => .synced 8#4 3#2 f
  | .rsvsrBr9 f => .synced 9#4 3#2 f
  | .rsvsrBr10 f => .synced 10#4 3#2 f
  | .rsvsrBr11 f => .synced 11#4 3#2 f
  | .rsvsrBr12 f => .synced 12#4 3#2 f
  | .rsvsrBr13 f => .synced 13#4 3#2 f
  | .rsvsrBr14 f => .synced 14#4 3#2 f
  | .freeSr0 f => .synced 0#4 0#2 f
  | .freeSr1 f => .synced 0#4 1#2 f
  | .freeSr2 f => .synced 0#4 2#2 f
  | .br1Sr0 f => .synced 1#4 0#2 f
  | .br1Sr1 f => .synced 1#4 1#2 f
  | .br1Sr2 f => .synced 1#4 2#2 f
  | .br2Sr0 f => .synced 2#4 0#2 f
  | .br2Sr1 f => .synced 2#4 1#2 f
  | .br2Sr2 f => .synced 2#4 2#2 f
  | .br3Sr0 f => .synced 3#4 0#2 f
  | .br3Sr1 f => .synced 3#4 1#2 f
  | .br3Sr2 f => .synced 3#4 2#2 f
  | .br4Sr0 f => .synced 4#4 0#2 f
  | .br4Sr1 f => .synced 4#4 1#2 f
  | .br4Sr2 f => .synced 4#4 2#2 f
  | .br5Sr0 f => .synced 5#4 0#2 f
  | .br5Sr1 f => .synced 5#4 1#2 f
  | .br5Sr2 f => .synced 5#4 2#2 f
  | .br6Sr0 f => .synced 6#4 0#2 f
  | .br6Sr1 f => .synced 6#4 1#2 f
  | .br6Sr2 f => .synced 6#4 2#2 f
  | .br7Sr0 f => .synced 7#4 0#2 f
  | .br7Sr1 f => .synced 7#4 1#2 f
  | .br7Sr2 f => .synced 7#4 2#2 f
  | .br8Sr0 f => .synced 8#4 0#2 f
  | .br8Sr1 f => .synced 8#4 1#2 f
  | .br8Sr2 f => .synced 8#4 2#2 f
  | .br9Sr0 f => .synced 9#4 0#2 f
  | .br9Sr1 f => .synced 9#4 1#2 f
  | .br9Sr2 f => .synced 9#4 2#2 f
  | .br10Sr0 f => .synced 10#4 0#2 f
  | .br10Sr1 f => .synced 10#4 1#2 f
  | .br10Sr2 f => .synced 10#4 2#2 f
  | .br11Sr0 f => .synced 11#4 0#2 f
  | .br11Sr1 f => .synced 11#4 1#2 f
  | .br11Sr2 f => .synced 11#4 2#2 f
  | .br12Sr0 f => .synced 12#4 0#2 f
  | .br12Sr1 f => .synced 12#4 1#2 f
  | .br12Sr2 f => .synced 12#4 2#2 f
  | .br13Sr0 f => .synced 13#4 0#2 f
  | .br13Sr1 f => .synced 13#4 1#2 f
  | .br13Sr2 f => .synced 13#4 2#2 f
  | .br14Sr0 f => .synced 14#4 0#2 f
  | .br14Sr1 f => .synced 14#4 1#2 f
  | .br14Sr2 f => .synced 14#4 2#2 f

/-- The word of `HDR(...)` before it is cut to 32 bits (30_encoding.md R120). -/
def HdrArgs.wordNat (a : HdrArgs) : Nat :=
  0xFFE00000 + a.ver * 2 ^ 19 + a.lay * 2 ^ 17 + a.prot * 2 ^ 16 + a.br * 2 ^ 12 + a.sr * 2 ^ 10 +
  a.pad * 2 ^ 9 + a.priv * 2 ^ 8 + a.cm * 2 ^ 6 + a.mx * 2 ^ 4 + a.copy * 2 ^ 3 + a.orig * 2 ^ 2 +
  a.emph

/-- The word written `HDR(...)` (30_encoding.md R120). -/
def HdrArgs.word (a : HdrArgs) : Word := BitVec.ofNat 32 a.wordNat

/-- The notation's arguments for given indices and operand bits (30_encoding.md R120). -/
def hdrArgsOf (bri : BitVec 4) (sri : BitVec 2) (f : OperandBits) : HdrArgs where
  ver := f.versionId.toNat
  lay := f.layer.toNat
  prot := f.protectionAbsent.toNat
  br := bri.toNat
  sr := sri.toNat
  pad := f.padding.toNat
  priv := f.privateBit.toNat
  cm := f.channelMode.toNat
  mx := f.modeExtension.toNat
  copy := f.copyright.toNat
  orig := f.original.toNat
  emph := f.emphasis.toNat

/-- The word with good sync, the two indices and the operand bits (30_encoding.md R90, R120). -/
def syncedWord (bri : BitVec 4) (sri : BitVec 2) (f : OperandBits) : Word :=
  (hdrArgsOf bri sri f).word

/-- The word of a well-formed instruction (30_encoding.md R111, R120). -/
def encode (i : Instr) : Word :=
  match i.classFields with
  | .badSync b rest => BitVec.ofNat 32 (2 ^ 32 - 2 ^ (b + 1) + rest)
  | .synced bri sri f => syncedWord bri sri f

/-- A row of the opcode table: a word is in it when its masked bits are the match bits
(30_encoding.md R110). -/
structure Row where
  matchBits : Word
  maskBits  : Word
  deriving DecidableEq, Repr

/-- `class(w) = row` exactly when this holds (30_encoding.md R110). -/
def Row.selects (r : Row) (w : Word) : Bool := w &&& r.maskBits == r.matchBits

/-- The row of each constructor, its numbers as spec/opcode_table.json prints them. -/
def Instr.row : Instr → Row
  | .badsyncZ31 _ => ⟨0x00000000#32, 0x80000000#32⟩
  | .badsyncZ30 _ => ⟨0x80000000#32, 0xC0000000#32⟩
  | .badsyncZ29 _ => ⟨0xC0000000#32, 0xE0000000#32⟩
  | .badsyncZ28 _ => ⟨0xE0000000#32, 0xF0000000#32⟩
  | .badsyncZ27 _ => ⟨0xF0000000#32, 0xF8000000#32⟩
  | .badsyncZ26 _ => ⟨0xF8000000#32, 0xFC000000#32⟩
  | .badsyncZ25 _ => ⟨0xFC000000#32, 0xFE000000#32⟩
  | .badsyncZ24 _ => ⟨0xFE000000#32, 0xFF000000#32⟩
  | .badsyncZ23 _ => ⟨0xFF000000#32, 0xFF800000#32⟩
  | .badsyncZ22 _ => ⟨0xFF800000#32, 0xFFC00000#32⟩
  | .badsyncZ21 _ => ⟨0xFFC00000#32, 0xFFE00000#32⟩
  | .rsvbr _ _ => ⟨0xFFE0F000#32, 0xFFE0F000#32⟩
  | .rsvsrBr0 _ => ⟨0xFFE00C00#32, 0xFFE0FC00#32⟩
  | .rsvsrBr1 _ => ⟨0xFFE01C00#32, 0xFFE0FC00#32⟩
  | .rsvsrBr2 _ => ⟨0xFFE02C00#32, 0xFFE0FC00#32⟩
  | .rsvsrBr3 _ => ⟨0xFFE03C00#32, 0xFFE0FC00#32⟩
  | .rsvsrBr4 _ => ⟨0xFFE04C00#32, 0xFFE0FC00#32⟩
  | .rsvsrBr5 _ => ⟨0xFFE05C00#32, 0xFFE0FC00#32⟩
  | .rsvsrBr6 _ => ⟨0xFFE06C00#32, 0xFFE0FC00#32⟩
  | .rsvsrBr7 _ => ⟨0xFFE07C00#32, 0xFFE0FC00#32⟩
  | .rsvsrBr8 _ => ⟨0xFFE08C00#32, 0xFFE0FC00#32⟩
  | .rsvsrBr9 _ => ⟨0xFFE09C00#32, 0xFFE0FC00#32⟩
  | .rsvsrBr10 _ => ⟨0xFFE0AC00#32, 0xFFE0FC00#32⟩
  | .rsvsrBr11 _ => ⟨0xFFE0BC00#32, 0xFFE0FC00#32⟩
  | .rsvsrBr12 _ => ⟨0xFFE0CC00#32, 0xFFE0FC00#32⟩
  | .rsvsrBr13 _ => ⟨0xFFE0DC00#32, 0xFFE0FC00#32⟩
  | .rsvsrBr14 _ => ⟨0xFFE0EC00#32, 0xFFE0FC00#32⟩
  | .freeSr0 _ => ⟨0xFFE00000#32, 0xFFE0FC00#32⟩
  | .freeSr1 _ => ⟨0xFFE00400#32, 0xFFE0FC00#32⟩
  | .freeSr2 _ => ⟨0xFFE00800#32, 0xFFE0FC00#32⟩
  | .br1Sr0 _ => ⟨0xFFE01000#32, 0xFFE0FC00#32⟩
  | .br1Sr1 _ => ⟨0xFFE01400#32, 0xFFE0FC00#32⟩
  | .br1Sr2 _ => ⟨0xFFE01800#32, 0xFFE0FC00#32⟩
  | .br2Sr0 _ => ⟨0xFFE02000#32, 0xFFE0FC00#32⟩
  | .br2Sr1 _ => ⟨0xFFE02400#32, 0xFFE0FC00#32⟩
  | .br2Sr2 _ => ⟨0xFFE02800#32, 0xFFE0FC00#32⟩
  | .br3Sr0 _ => ⟨0xFFE03000#32, 0xFFE0FC00#32⟩
  | .br3Sr1 _ => ⟨0xFFE03400#32, 0xFFE0FC00#32⟩
  | .br3Sr2 _ => ⟨0xFFE03800#32, 0xFFE0FC00#32⟩
  | .br4Sr0 _ => ⟨0xFFE04000#32, 0xFFE0FC00#32⟩
  | .br4Sr1 _ => ⟨0xFFE04400#32, 0xFFE0FC00#32⟩
  | .br4Sr2 _ => ⟨0xFFE04800#32, 0xFFE0FC00#32⟩
  | .br5Sr0 _ => ⟨0xFFE05000#32, 0xFFE0FC00#32⟩
  | .br5Sr1 _ => ⟨0xFFE05400#32, 0xFFE0FC00#32⟩
  | .br5Sr2 _ => ⟨0xFFE05800#32, 0xFFE0FC00#32⟩
  | .br6Sr0 _ => ⟨0xFFE06000#32, 0xFFE0FC00#32⟩
  | .br6Sr1 _ => ⟨0xFFE06400#32, 0xFFE0FC00#32⟩
  | .br6Sr2 _ => ⟨0xFFE06800#32, 0xFFE0FC00#32⟩
  | .br7Sr0 _ => ⟨0xFFE07000#32, 0xFFE0FC00#32⟩
  | .br7Sr1 _ => ⟨0xFFE07400#32, 0xFFE0FC00#32⟩
  | .br7Sr2 _ => ⟨0xFFE07800#32, 0xFFE0FC00#32⟩
  | .br8Sr0 _ => ⟨0xFFE08000#32, 0xFFE0FC00#32⟩
  | .br8Sr1 _ => ⟨0xFFE08400#32, 0xFFE0FC00#32⟩
  | .br8Sr2 _ => ⟨0xFFE08800#32, 0xFFE0FC00#32⟩
  | .br9Sr0 _ => ⟨0xFFE09000#32, 0xFFE0FC00#32⟩
  | .br9Sr1 _ => ⟨0xFFE09400#32, 0xFFE0FC00#32⟩
  | .br9Sr2 _ => ⟨0xFFE09800#32, 0xFFE0FC00#32⟩
  | .br10Sr0 _ => ⟨0xFFE0A000#32, 0xFFE0FC00#32⟩
  | .br10Sr1 _ => ⟨0xFFE0A400#32, 0xFFE0FC00#32⟩
  | .br10Sr2 _ => ⟨0xFFE0A800#32, 0xFFE0FC00#32⟩
  | .br11Sr0 _ => ⟨0xFFE0B000#32, 0xFFE0FC00#32⟩
  | .br11Sr1 _ => ⟨0xFFE0B400#32, 0xFFE0FC00#32⟩
  | .br11Sr2 _ => ⟨0xFFE0B800#32, 0xFFE0FC00#32⟩
  | .br12Sr0 _ => ⟨0xFFE0C000#32, 0xFFE0FC00#32⟩
  | .br12Sr1 _ => ⟨0xFFE0C400#32, 0xFFE0FC00#32⟩
  | .br12Sr2 _ => ⟨0xFFE0C800#32, 0xFFE0FC00#32⟩
  | .br13Sr0 _ => ⟨0xFFE0D000#32, 0xFFE0FC00#32⟩
  | .br13Sr1 _ => ⟨0xFFE0D400#32, 0xFFE0FC00#32⟩
  | .br13Sr2 _ => ⟨0xFFE0D800#32, 0xFFE0FC00#32⟩
  | .br14Sr0 _ => ⟨0xFFE0E000#32, 0xFFE0FC00#32⟩
  | .br14Sr1 _ => ⟨0xFFE0E400#32, 0xFFE0FC00#32⟩
  | .br14Sr2 _ => ⟨0xFFE0E800#32, 0xFFE0FC00#32⟩

/-- The rows with good sync of one `bitrate_index` below 15: three sample rates and the reserved one
(30_encoding.md R113 to R115, mask `0xFFE0FC00`). -/
def syncedRows (i : Nat) : List Row :=
  (List.range 4).map fun j => ⟨BitVec.ofNat 32 (0xFFE00000 + i * 0x1000 + j * 0x400), 0xFFE0FC00#32⟩

/-- The BadSync row of bit `b`: ones above `b`, zero at `b` (30_encoding.md R111). -/
def badSyncRow (b : Nat) : Row :=
  ⟨BitVec.ofNat 32 (2 ^ 32 - 2 ^ (b + 1)), BitVec.ofNat 32 (2 ^ 32 - 2 ^ b)⟩

/-- The class map, all 72 rows, by the formulas of 30_encoding.md R111 to R115. -/
def opcodeRows : List Row :=
  (List.range 11).map (fun k => badSyncRow (31 - k)) ++ [⟨0xFFE0F000#32, 0xFFE0F000#32⟩] ++
  (List.range 15).flatMap syncedRows

/-- The instruction a header word numbered as spec/opcode_table.json numbers it decodes to: the
word's four bytes are laid out as the buffer holds them (20_memory.md R63) and read back. -/
def decodeTableWord (nbits w : Nat) : Option Instr :=
  match decodeBytes (wordBytes (BitVec.ofNat 32 (w % 2 ^ nbits))) with
  | .ok (i, _) => some i
  | .error _ => none

end Sys2Proof
end

