-- ==== Sys2Proof/Machine/State.lean ====
section
/-!
DEFINITION. The state of one MFHD instance as plain data (10_state.md R20), the records that cross
its interface (R36, R37), the buffers the host owns (20_memory.md R60) and what the host does next
(43_sequencer.md R292 to R297), the reasons a step can stop, and the state after Reset (70 R380).
-/

namespace Sys2Proof.Machine

/-- `st`: exactly four states (10_state.md R21). -/
inductive SeqState where
  | searching | headerFound | frameEmitted | exhausted
  deriving DecidableEq, Repr

/-- The four error kinds (60_exceptions.md R340). They are values, not faults (R341). -/
inductive HeaderError where
  | badSync | reservedBitrate | reservedSampleRate | divisionByZero
  deriving DecidableEq, Repr

/-- A decoded header: the thirteen fields raw and the derived members (10_state.md R36). -/
structure FrameHeader where
  sync             : BitVec 11
  versionId        : BitVec 2
  layer            : BitVec 2
  protectionAbsent : Bool
  bitrateIndex     : BitVec 4
  sampleRateIndex  : BitVec 2
  padding          : Bool
  privateBit       : Bool
  channelMode      : BitVec 2
  modeExtension    : BitVec 2
  copyright        : Bool
  original         : Bool
  emphasis         : BitVec 2
  bitrateKbps      : BitVec 9
  bitrateFree      : Bool
  sampleRateHz     : BitVec 16
  versionReserved  : Bool
  layerReserved    : Bool
  emphasisReserved : Bool
  isValid          : Bool
  deriving DecidableEq, Repr

/-- A Frame record as `out_frame` holds it: the header as the word it was made from, the offset of
its first byte and its length in bytes (10_state.md R28, R37). -/
structure FrameRecord where
  word   : Word
  start  : Nat
  length : BitVec 11
  deriving DecidableEq, Repr

/-- The source buffer (20_memory.md R60): `len` bytes are readable, at offsets `0 .. len-1`; `cells`
lists the non-zero ones by rising offset, and an unlisted offset below `len` holds the byte 0
(assumptions 2 and 3). -/
structure Buffer where
  len   : Nat
  cells : List Host.Cell
  deriving DecidableEq, Repr

/-- The operands `so, bl, le, mf` of Start (43_sequencer.md R293). -/
structure StartOperands where
  startOffset : Nat
  bufLen      : Nat
  limitEn     : Bool
  maxFrames   : Nat
  deriving DecidableEq, Repr

/-- The three host commands (43_sequencer.md R292, R293, R296), and Reset and Start issued together
(60_exceptions.md R349). -/
inductive HostCommand where
  | reset
  | start (ops : StartOperands)
  | pull
  | resetWithStart (ops : StartOperands)
  deriving DecidableEq, Repr

/-- What the host does at one event (assumption 6): nothing, so that SEQ takes its step if it has
one (43_sequencer.md R299); a command; or loading a buffer, which the next Start refers to
(70_reset_and_hazards.md R385, R387, assumption 5). -/
inductive HostEvent where
  | idle
  | command (c : HostCommand)
  | loadBuffer (bytes : List Byte)
  deriving DecidableEq, Repr

/-- The machine. The eleven elements of 10_state.md R20, then three fields of the model's own: the
scan's buffer, the buffer the host has loaded, and the host's coming events (assumptions 2, 5, 6).
Offsets and counts are natural numbers (00_scope.md R7, assumption 1). -/
structure State where
  /-- `st`, 2 bits (R21). -/
  st             : SeqState
  /-- `cursor`, the program counter (R22). -/
  cursor         : Nat
  /-- `hdr_start` (R23). -/
  hdrStart       : Nat
  /-- `hdr_word`, 32 bits, the latched header word (R24). -/
  hdrWord        : Word
  /-- `frame_count` (R25). -/
  frameCount     : Nat
  /-- `limit_hit`, 1 bit (R26). -/
  limitHit       : Bool
  /-- `cfg_start_offset` (R27). -/
  cfgStartOffset : Nat
  /-- `buf_len` (R27). -/
  bufLen         : Nat
  /-- `limit_en`, 1 bit (R27). -/
  limitEn        : Bool
  /-- `max_frames` (R27). -/
  maxFrames      : Nat
  /-- `out_frame` (R28). -/
  outFrame       : FrameRecord
  /-- The buffer of the scan, which Start took by reference (20_memory.md R60,
  70_reset_and_hazards.md R387); no step of MFHD writes it (R61). -/
  buf            : Buffer
  /-- The buffer the host has loaded last, which the next Start refers to (R385, R387). -/
  loaded         : Buffer
  /-- The host's coming events, the next first; when the list is empty the host does nothing more. -/
  hostEvents     : List HostEvent
  deriving DecidableEq, Repr

/-- Why the machine stops. Both are one breach of a duty of the host's, a `buf_len` larger than the
readable buffer, to which the spec gives no meaning (70_reset_and_hazards.md R388); MFHD itself
never faults (60_exceptions.md R362). -/
inductive Fault where
  /-- Raised by Start when its `bl` is larger than the readable length of the buffer it refers to
  (R387, R388, assumption 4). Safe: the spec gives such a scan no meaning. -/
  | bufLenBeyondBuffer
  /-- Raised by a Searching step that reads an offset below `buf_len` at which no byte is readable
  (assumption 4), which no state reached from reset does. Safe, for the same reason. -/
  | unreadableByte
  deriving DecidableEq, Repr

/-- Why an instruction has no meaning. -/
inductive Refusal where
  /-- Raised by nothing: every class has its meaning. It would be answered by `exec` for an
  instruction not modelled, and would be safe. -/
  | notModelled (mnemonic : String)
  deriving DecidableEq, Repr

/-- The outcome of a step of this machine. -/
abbrev Result := Host.Outcome State Fault Refusal

/-- The machine after Reset: `Exhausted`, every register 0 (70_reset_and_hazards.md R380). The
host's side, which the spec leaves to the host, is empty: no buffer and no events (assumptions 2
and 6). -/
def State.reset : State where
  st := .exhausted
  cursor := 0
  hdrStart := 0
  hdrWord := 0#32
  frameCount := 0
  limitHit := false
  cfgStartOffset := 0
  bufLen := 0
  limitEn := false
  maxFrames := 0
  outFrame := ⟨0#32, 0, 0#11⟩
  buf := ⟨0, []⟩
  loaded := ⟨0, []⟩
  hostEvents := []

end Sys2Proof.Machine
end

