-- ==== Sys2Proof/Machine/Ops.lean ====
section
/-!
DEFINITION. The named operations over the buffer and the registers: reading and filling the buffer
(20_memory.md), `SYNC.B` and `FETCH32` (41_sync_and_length.md R181, R182), resynchronisation, which
is the one exception entry of MFHD (60_exceptions.md R350), and the emission of a Frame record
(43_sequencer.md R307). There is nothing to return from after a resynchronisation (R351).
-/

namespace Sys2Proof.Machine

/-! ## The buffer -/

/-- What an offset holds by the list of non-zero bytes: 0 where it is not listed (assumption 3). -/
def byteAt : List Host.Cell → Nat → Byte
  | [], _ => 0#8
  | (a, v) :: rest, k => if a = k then v else byteAt rest k

/-- Reading one byte: none at an offset the host has not made readable (20_memory.md R60, R62). -/
def Buffer.read (b : Buffer) (a : Nat) : Option Byte :=
  if a < b.len then some (byteAt b.cells a) else none

/-- `cells` lists non-zero bytes by rising offset, from `lo` on and below `len`. -/
def cellsWf (lo len : Nat) : List Host.Cell → Bool
  | [] => true
  | (a, v) :: rest => decide (lo ≤ a) && decide (a < len) && (v != 0#8) && cellsWf (a + 1) len rest

/-- The canonical form: equal buffers are equal data. -/
def Buffer.wf (b : Buffer) : Bool := cellsWf 0 b.len b.cells

/-- Puts byte `v` at offset `k` of a list in canonical form; a zero removes the entry. -/
def setByte : List Host.Cell → Nat → Byte → List Host.Cell
  | [], k, v => if v = 0#8 then [] else [(k, v)]
  | (a, u) :: rest, k, v =>
    if a < k then (a, u) :: setByte rest k v
    else if a = k then (if v = 0#8 then rest else (k, v) :: rest)
    else (if v = 0#8 then (a, u) :: rest else (k, v) :: (a, u) :: rest)

/-- The host puts one byte in place at an offset it has made readable; elsewhere nothing changes.
MFHD has no such operation (20_memory.md R61). -/
def Buffer.put (b : Buffer) (k : Nat) (v : Byte) : Buffer :=
  if k < b.len then { b with cells := setByte b.cells k v } else b

/-- The host makes at least `n` bytes readable; the new ones are 0. -/
def Buffer.extend (b : Buffer) (n : Nat) : Buffer := { b with len := max b.len n }

/-- The non-zero bytes of a list that stands at offset `k` and up. -/
def cellsOf : Nat → List Byte → List Host.Cell
  | _, [] => []
  | k, v :: rest => if v = 0#8 then cellsOf (k + 1) rest else (k, v) :: cellsOf (k + 1) rest

/-- The buffer holding exactly the given bytes, the first at offset 0 (20_memory.md R60). -/
def Buffer.ofBytes (bytes : List Byte) : Buffer := ⟨bytes.length, cellsOf 0 bytes⟩

/-- `MemRead(a, n)` (20_memory.md R62): none where a byte of it is not readable. -/
def memRead (b : Buffer) (a : Nat) : Nat → Option (List Byte)
  | 0 => some []
  | n + 1 =>
    match b.read a, memRead b (a + 1) n with
    | some v, some rest => some (v :: rest)
    | _, _ => none

/-- `SYNC.B` on the two bytes it reads (41_sync_and_length.md R181). -/
def syncBytes (b0 b1 : Byte) : Bool := b0 == 0xFF#8 && b1.extractLsb' 5 3 == 0b111#3

/-- `SYNC.B(a)` (41_sync_and_length.md R181): none where its two bytes are not readable. -/
def syncB (b : Buffer) (a : Nat) : Option Bool :=
  match memRead b a 2 with
  | some [b0, b1] => some (syncBytes b0 b1)
  | _ => none

/-- `FETCH32` (41_sync_and_length.md R182): none where its four bytes are not readable. -/
def fetch32 (b : Buffer) (a : Nat) : Option Word :=
  match memRead b a 4 with
  | some [b0, b1, b2, b3] => some (assemble b0 b1 b2 b3)
  | _ => none

/-- The host puts the four bytes of a header word at offset `a` and makes room for the longest
frame there (assumption 11). -/
def Buffer.putWord (b : Buffer) (a : Nat) (w : Word) : Buffer :=
  ((((b.extend (a + Config.maxFrameBytes)).put a (wordByte w 0)).put (a + 1) (wordByte w 1)).put
    (a + 2) (wordByte w 2)).put (a + 3) (wordByte w 3)

/-! ## The registers -/

/-- Resynchronisation (60_exceptions.md R350, R352): nothing is saved, the search goes on one byte
after the candidate. H.ERROR and H.FALSEPOS both are this (43_sequencer.md R308). -/
def State.resync (s : State) : State := { s with cursor := s.hdrStart + 1, st := .searching }

/-- The writes of H.EMIT for a frame of `l` bytes (43_sequencer.md R307). -/
def State.emit (s : State) (l : Nat) : State :=
  { s with
    outFrame := ⟨s.hdrWord, s.hdrStart, BitVec.ofNat 11 l⟩
    frameCount := s.frameCount + 1
    cursor := s.hdrStart + l
    st := .frameEmitted }

/-- `H.ERROR` (43_sequencer.md R305): the same for every error kind, and the kind is not stored. -/
def headerError (_kind : HeaderError) (s : State) : Result := .next s.resync

/-- The two arms for a decoded header of length `l` (43_sequencer.md R308): `H.FALSEPOS` for a zero
length or an overrun (R306), else `H.EMIT` (R307). -/
def headerDecoded (l : Nat) (s : State) : Result :=
  if l = 0 ∨ s.hdrStart + l > s.bufLen then .next s.resync else .next (s.emit l)

/-- The candidate's outcome for the length FLEN gives (43_sequencer.md R308). -/
def headerLength (r : Except HeaderError Nat) (s : State) : Result :=
  match r with
  | .error k => headerError k s
  | .ok l => headerDecoded l s

end Sys2Proof.Machine
end

