-- ==== Sys2Proof/Machine/HostCmd.lean ====
section
/-!
DEFINITION. What the host can do (43_sequencer.md R292 to R297, 70_reset_and_hazards.md R385 to
R390): the commands Reset, Start and Pull, and loading the buffer the next Start refers to.
-/

namespace Sys2Proof.Machine

/-- `Reset` (43_sequencer.md R292, 70_reset_and_hazards.md R380): every register of 10_state.md R20
takes its reset value. The buffers and the coming events are the host's and stay (assumption 9). -/
def State.resetRegisters (s : State) : State :=
  { State.reset with buf := s.buf, loaded := s.loaded, hostEvents := s.hostEvents }

/-- The writes of `Start(so, bl, le, mf)` (43_sequencer.md R293), accepted in every state (R294),
and the buffer it takes by reference, the one the host has loaded (70_reset_and_hazards.md R387). -/
def State.start (s : State) (o : StartOperands) : State :=
  { s with
    cfgStartOffset := o.startOffset
    bufLen := o.bufLen
    limitEn := o.limitEn
    maxFrames := o.maxFrames
    cursor := o.startOffset
    frameCount := 0
    limitHit := false
    st := .searching
    buf := s.loaded }

/-- `Start`: a `bl` beyond the readable length of the loaded buffer has no move
(70_reset_and_hazards.md R388, assumption 4); any other operands begin a scan. -/
def startCommand (o : StartOperands) (s : State) : Result :=
  if o.bufLen ≤ s.loaded.len then .next (s.start o) else .fault .bufLenBeyondBuffer

/-- `Pull`: `E.PULL` in `FrameEmitted` (43_sequencer.md R309), nothing in any other state (R297). -/
def State.pull (s : State) : State :=
  match s.st with
  | .frameEmitted => { s with st := .searching }
  | .searching => s
  | .headerFound => s
  | .exhausted => s

/-- A command's effect; Reset wins over a Start issued with it (60_exceptions.md R349). -/
def hostCommand (c : HostCommand) (s : State) : Result :=
  match c with
  | .reset => .next s.resetRegisters
  | .start o => startCommand o s
  | .pull => .next s.pull
  | .resetWithStart _ => .next s.resetRegisters

/-- The host loads a buffer (70_reset_and_hazards.md R385), at any time, also while a scan runs on
another one: the scan's buffer stays as it is until the next Start (R390, R394, assumption 5). -/
def State.load (s : State) (bytes : List Byte) : State :=
  { s with loaded := Buffer.ofBytes bytes }

end Sys2Proof.Machine
end

