-- ==== Sys2Proof/Machine/BadSync.lean ====
section
/-!
DEFINITION. The meanings of `HDR.BADSYNC.Z31` to `HDR.BADSYNC.Z21` (42_header_classes.md R210): `DECODE`
gives `Err(BadSync)`, and a candidate of the class is rejected by H.ERROR. S.FOUND latches no such
word; the step is the defensive one of 43_sequencer.md R305. The bits below the first zero sync bit
are ignored.
-/

namespace Sys2Proof.Machine

/-- `HDR.BADSYNC.Z31` (42_header_classes.md R210). -/
def execBadsyncZ31 (_rest : Nat) (s : State) : Result := headerError .badSync s

/-- `HDR.BADSYNC.Z30` (42_header_classes.md R210). -/
def execBadsyncZ30 (_rest : Nat) (s : State) : Result := headerError .badSync s

/-- `HDR.BADSYNC.Z29` (42_header_classes.md R210). -/
def execBadsyncZ29 (_rest : Nat) (s : State) : Result := headerError .badSync s

/-- `HDR.BADSYNC.Z28` (42_header_classes.md R210). -/
def execBadsyncZ28 (_rest : Nat) (s : State) : Result := headerError .badSync s

/-- `HDR.BADSYNC.Z27` (42_header_classes.md R210). -/
def execBadsyncZ27 (_rest : Nat) (s : State) : Result := headerError .badSync s

/-- `HDR.BADSYNC.Z26` (42_header_classes.md R210). -/
def execBadsyncZ26 (_rest : Nat) (s : State) : Result := headerError .badSync s

/-- `HDR.BADSYNC.Z25` (42_header_classes.md R210). -/
def execBadsyncZ25 (_rest : Nat) (s : State) : Result := headerError .badSync s

/-- `HDR.BADSYNC.Z24` (42_header_classes.md R210). -/
def execBadsyncZ24 (_rest : Nat) (s : State) : Result := headerError .badSync s

/-- `HDR.BADSYNC.Z23` (42_header_classes.md R210). -/
def execBadsyncZ23 (_rest : Nat) (s : State) : Result := headerError .badSync s

/-- `HDR.BADSYNC.Z22` (42_header_classes.md R210). -/
def execBadsyncZ22 (_rest : Nat) (s : State) : Result := headerError .badSync s

/-- `HDR.BADSYNC.Z21` (42_header_classes.md R210). -/
def execBadsyncZ21 (_rest : Nat) (s : State) : Result := headerError .badSync s

end Sys2Proof.Machine
end

