-- ==== Sys2Proof/Machine/Flags.lean ====
section
/-!
DEFINITION. Every flag of MFHD (10_state.md R31): the flags of a header (40_header_decode.md R146
to R149) and the two levels derived from the sequencer state (10_state.md R29). `bitrate_free`
comes from `lookupBitrate` (R144); `limit_hit` is a register.
-/

namespace Sys2Proof.Machine

/-- `F.VERRSV` (40_header_decode.md R146). -/
def flagVersionReserved (versionId : BitVec 2) : Bool := versionId == 1#2

/-- `F.LAYRSV` (40_header_decode.md R147). -/
def flagLayerReserved (layer : BitVec 2) : Bool := layer == 0#2

/-- `F.EMPHRSV` (40_header_decode.md R148). -/
def flagEmphasisReserved (emphasis : BitVec 2) : Bool := emphasis == 2#2

/-- `F.VALID` (40_header_decode.md R149). -/
def flagIsValid (versionReserved layerReserved : Bool) : Bool := !versionReserved && !layerReserved

/-- `frame_valid` (10_state.md R29). -/
def frameValid (s : State) : Bool := s.st == .frameEmitted

/-- `scan_done` (10_state.md R29). -/
def scanDone (s : State) : Bool := s.st == .exhausted

end Sys2Proof.Machine
end

