-- ==== Sys2Proof/Machine/Operands.lean ====
section
/-!
DEFINITION. The operand forms: the two table lookups `L.BITRATE` and `L.SRATE`
(40_header_decode.md R144, R145) and the names of the enumerated field values (30_encoding.md R94
to R97). The field extractions `X.*` are in Decode.lean.
-/

namespace Sys2Proof.Machine

/-- `L.BITRATE` (40_header_decode.md R144): whether the bitrate is free, and the number of kbps,
which is 0 for free format. -/
def lookupBitrate (idx : BitVec 4) : Except HeaderError (Bool × BitVec 9) :=
  match idx.toNat with
  | 0 => .ok (true, 0#9)
  | 1 => .ok (false, 32#9)
  | 2 => .ok (false, 40#9)
  | 3 => .ok (false, 48#9)
  | 4 => .ok (false, 56#9)
  | 5 => .ok (false, 64#9)
  | 6 => .ok (false, 80#9)
  | 7 => .ok (false, 96#9)
  | 8 => .ok (false, 112#9)
  | 9 => .ok (false, 128#9)
  | 10 => .ok (false, 160#9)
  | 11 => .ok (false, 192#9)
  | 12 => .ok (false, 224#9)
  | 13 => .ok (false, 256#9)
  | 14 => .ok (false, 320#9)
  | _ => .error .reservedBitrate

/-- `L.SRATE` (40_header_decode.md R145). -/
def lookupSampleRate (idx : BitVec 2) : Except HeaderError (BitVec 16) :=
  match idx.toNat with
  | 0 => .ok 44100#16
  | 1 => .ok 48000#16
  | 2 => .ok 32000#16
  | _ => .error .reservedSampleRate

/-- The name of a `version_id` (30_encoding.md R94). -/
def versionName (v : BitVec 2) : MpegVersion :=
  match v.toNat with
  | 0 => .mpeg25
  | 1 => .reserved
  | 2 => .mpeg2
  | _ => .mpeg1

/-- The name of a `layer` (30_encoding.md R95). -/
def layerName (l : BitVec 2) : MpegLayer :=
  match l.toNat with
  | 0 => .reserved
  | 1 => .layerIII
  | 2 => .layerII
  | _ => .layerI

/-- The name of a `channel_mode` (30_encoding.md R96). -/
def channelModeName (c : BitVec 2) : ChannelMode :=
  match c.toNat with
  | 0 => .stereo
  | 1 => .jointStereo
  | 2 => .dualChannel
  | _ => .mono

/-- The name of an `emphasis` (30_encoding.md R97). -/
def emphasisName (e : BitVec 2) : Emphasis :=
  match e.toNat with
  | 0 => .none
  | 1 => .us50_15
  | 2 => .reserved
  | _ => .ccittJ17

/-- `mode_extension` has a meaning only with JointStereo (30_encoding.md R99). -/
def modeExtensionMeaningful (channelMode : BitVec 2) : Bool := channelMode == 1#2

end Sys2Proof.Machine
end

