-- ==== Sys2Proof/Machine/Hdec.lean ====
section
/-!
DEFINITION. HDEC and FLEN: `DECODE` (40_header_decode.md R151), `FLEN` (41_sync_and_length.md
R184), `DECODE_LEN` (R191), the status codes (R153) and the standalone port pair (10_state.md R35).
-/

namespace Sys2Proof.Machine

/-- `SYNC.W` (41_sync_and_length.md R180). -/
def syncW (w : Word) : Bool := xSync w == Config.syncValue

/-- `DECODE` (40_header_decode.md R151): the tests in the order of R152, then the thirteen fields,
the lookups and the flags. The two lookups cannot raise there, but an error of theirs would be
passed on. -/
def decodeHeader (w : Word) : Except HeaderError FrameHeader :=
  if xSync w ≠ Config.syncValue then .error .badSync
  else if xBridx w = 15#4 then .error .reservedBitrate
  else if xSridx w = 3#2 then .error .reservedSampleRate
  else
    match lookupBitrate (xBridx w), lookupSampleRate (xSridx w) with
    | .ok (free, kbps), .ok hz =>
      .ok
        { sync := Config.syncValue
          versionId := xVer w
          layer := xLayer w
          protectionAbsent := xProt w
          bitrateIndex := xBridx w
          sampleRateIndex := xSridx w
          padding := xPad w
          privateBit := xPriv w
          channelMode := xChmode w
          modeExtension := xModext w
          copyright := xCopy w
          original := xOrig w
          emphasis := xEmph w
          bitrateKbps := kbps
          bitrateFree := free
          sampleRateHz := hz
          versionReserved := flagVersionReserved (xVer w)
          layerReserved := flagLayerReserved (xLayer w)
          emphasisReserved := flagEmphasisReserved (xEmph w)
          isValid := flagIsValid (flagVersionReserved (xVer w)) (flagLayerReserved (xLayer w)) }
    | .error k, _ => .error k
    | .ok _, .error k => .error k

/-- `FLEN` over the four members it reads (41_sync_and_length.md R184): the zero test first, then
free format, then floor division over the natural numbers. The result is exact (assumption 13). -/
def frameLength (kbps : BitVec 9) (free : Bool) (hz : BitVec 16) (padding : Bool) :
    Except HeaderError Nat :=
  if hz = 0#16 then .error .divisionByZero
  else if free then .ok 0
  else .ok (Config.lenNumerator * kbps.toNat / hz.toNat + padding.toNat)

/-- `FLEN` (41_sync_and_length.md R184). -/
def flen (h : FrameHeader) : Except HeaderError Nat :=
  frameLength h.bitrateKbps h.bitrateFree h.sampleRateHz h.padding

/-- `DECODE_LEN` (41_sync_and_length.md R191). -/
def decodeLen (w : Word) : Except HeaderError (FrameHeader × Nat) :=
  match decodeHeader w with
  | .error k => .error k
  | .ok h =>
    match flen h with
    | .error k => .error k
    | .ok l => .ok (h, l)

/-- The status code of an error (40_header_decode.md R153, 60_exceptions.md R340). -/
def errorCode : HeaderError → BitVec 3
  | .badSync => 1#3
  | .reservedBitrate => 2#3
  | .reservedSampleRate => 3#3
  | .divisionByZero => 4#3

/-- The value outputs when no header exists: all driven to 0 (40_header_decode.md R153). -/
def noHeader : FrameHeader where
  sync := 0#11
  versionId := 0#2
  layer := 0#2
  protectionAbsent := false
  bitrateIndex := 0#4
  sampleRateIndex := 0#2
  padding := false
  privateBit := false
  channelMode := 0#2
  modeExtension := 0#2
  copyright := false
  original := false
  emphasis := 0#2
  bitrateKbps := 0#9
  bitrateFree := false
  sampleRateHz := 0#16
  versionReserved := false
  layerReserved := false
  emphasisReserved := false
  isValid := false

/-- The outputs of a standalone HDEC and FLEN (10_state.md R35, 40_header_decode.md R153). -/
structure HdecPort where
  status : BitVec 3
  header : FrameHeader
  length : BitVec 11
  deriving DecidableEq, Repr

/-- The combinational port pair as a function of `hdr_in` (10_state.md R35). -/
def hdecPort (w : Word) : HdecPort :=
  match decodeLen w with
  | .ok (h, l) => ⟨0#3, h, BitVec.ofNat 11 l⟩
  | .error k => ⟨errorCode k, noHeader, 0#11⟩

end Sys2Proof.Machine
end

