-- ==== Sys2Proof/Machine/Free.lean ====
section
/-!
DEFINITION. The meanings of `HDR.FREE.SR0` to `HDR.FREE.SR2` (42_header_classes.md R213 to R215): the
header decodes with `bitrate_free = 1`, `FLEN` gives 0 whatever `padding` is, and SEQ rejects the
candidate as a false positive.
-/

namespace Sys2Proof.Machine

/-- What the three free-format classes share: `FLEN` of a free header at `hz` (41 R188) and the
outcome of that length (43_sequencer.md R306). -/
def freeClass (hz : BitVec 16) (f : OperandBits) (s : State) : Result :=
  headerLength (frameLength 0#9 true hz f.padding) s

/-- `HDR.FREE.SR0` (42_header_classes.md R213). -/
def execFreeSr0 (f : OperandBits) (s : State) : Result := freeClass 44100#16 f s

/-- `HDR.FREE.SR1` (42_header_classes.md R214). -/
def execFreeSr1 (f : OperandBits) (s : State) : Result := freeClass 48000#16 f s

/-- `HDR.FREE.SR2` (42_header_classes.md R215). -/
def execFreeSr2 (f : OperandBits) (s : State) : Result := freeClass 32000#16 f s

end Sys2Proof.Machine
end

