-- ==== Sys2Proof/Machine/Numeric.lean ====
section
/-!
DEFINITION. The meanings of `HDR.BR1.SR0` to `HDR.BR14.SR2` (42_header_classes.md R216 to R257): the
header decodes with the class's bitrate and sample rate, `FLEN` gives the class's base length plus
`padding`, and SEQ emits the frame if it fits the buffer and rejects the candidate if not.
-/

namespace Sys2Proof.Machine

/-- What the 42 numeric classes share: `FLEN` at `kbps` and `hz` (41 R184) and the outcome of that
length (43_sequencer.md R306, R307). -/
def numericClass (kbps : BitVec 9) (hz : BitVec 16) (f : OperandBits) (s : State) : Result :=
  headerLength (frameLength kbps false hz f.padding) s

/-- `HDR.BR1.SR0` (42_header_classes.md R216). -/
def execBr1Sr0 (f : OperandBits) (s : State) : Result := numericClass 32#9 44100#16 f s

/-- `HDR.BR1.SR1` (42_header_classes.md R217). -/
def execBr1Sr1 (f : OperandBits) (s : State) : Result := numericClass 32#9 48000#16 f s

/-- `HDR.BR1.SR2` (42_header_classes.md R218). -/
def execBr1Sr2 (f : OperandBits) (s : State) : Result := numericClass 32#9 32000#16 f s

/-- `HDR.BR2.SR0` (42_header_classes.md R219). -/
def execBr2Sr0 (f : OperandBits) (s : State) : Result := numericClass 40#9 44100#16 f s

/-- `HDR.BR2.SR1` (42_header_classes.md R220). -/
def execBr2Sr1 (f : OperandBits) (s : State) : Result := numericClass 40#9 48000#16 f s

/-- `HDR.BR2.SR2` (42_header_classes.md R221). -/
def execBr2Sr2 (f : OperandBits) (s : State) : Result := numericClass 40#9 32000#16 f s

/-- `HDR.BR3.SR0` (42_header_classes.md R222). -/
def execBr3Sr0 (f : OperandBits) (s : State) : Result := numericClass 48#9 44100#16 f s

/-- `HDR.BR3.SR1` (42_header_classes.md R223). -/
def execBr3Sr1 (f : OperandBits) (s : State) : Result := numericClass 48#9 48000#16 f s

/-- `HDR.BR3.SR2` (42_header_classes.md R224). -/
def execBr3Sr2 (f : OperandBits) (s : State) : Result := numericClass 48#9 32000#16 f s

/-- `HDR.BR4.SR0` (42_header_classes.md R225). -/
def execBr4Sr0 (f : OperandBits) (s : State) : Result := numericClass 56#9 44100#16 f s

/-- `HDR.BR4.SR1` (42_header_classes.md R226). -/
def execBr4Sr1 (f : OperandBits) (s : State) : Result := numericClass 56#9 48000#16 f s

/-- `HDR.BR4.SR2` (42_header_classes.md R227). -/
def execBr4Sr2 (f : OperandBits) (s : State) : Result := numericClass 56#9 32000#16 f s

/-- `HDR.BR5.SR0` (42_header_classes.md R228). -/
def execBr5Sr0 (f : OperandBits) (s : State) : Result := numericClass 64#9 44100#16 f s

/-- `HDR.BR5.SR1` (42_header_classes.md R229). -/
def execBr5Sr1 (f : OperandBits) (s : State) : Result := numericClass 64#9 48000#16 f s

/-- `HDR.BR5.SR2` (42_header_classes.md R230). -/
def execBr5Sr2 (f : OperandBits) (s : State) : Result := numericClass 64#9 32000#16 f s

/-- `HDR.BR6.SR0` (42_header_classes.md R231). -/
def execBr6Sr0 (f : OperandBits) (s : State) : Result := numericClass 80#9 44100#16 f s

/-- `HDR.BR6.SR1` (42_header_classes.md R232). -/
def execBr6Sr1 (f : OperandBits) (s : State) : Result := numericClass 80#9 48000#16 f s

/-- `HDR.BR6.SR2` (42_header_classes.md R233). -/
def execBr6Sr2 (f : OperandBits) (s : State) : Result := numericClass 80#9 32000#16 f s

/-- `HDR.BR7.SR0` (42_header_classes.md R234). -/
def execBr7Sr0 (f : OperandBits) (s : State) : Result := numericClass 96#9 44100#16 f s

/-- `HDR.BR7.SR1` (42_header_classes.md R235). -/
def execBr7Sr1 (f : OperandBits) (s : State) : Result := numericClass 96#9 48000#16 f s

/-- `HDR.BR7.SR2` (42_header_classes.md R236). -/
def execBr7Sr2 (f : OperandBits) (s : State) : Result := numericClass 96#9 32000#16 f s

/-- `HDR.BR8.SR0` (42_header_classes.md R237). -/
def execBr8Sr0 (f : OperandBits) (s : State) : Result := numericClass 112#9 44100#16 f s

/-- `HDR.BR8.SR1` (42_header_classes.md R238). -/
def execBr8Sr1 (f : OperandBits) (s : State) : Result := numericClass 112#9 48000#16 f s

/-- `HDR.BR8.SR2` (42_header_classes.md R239). -/
def execBr8Sr2 (f : OperandBits) (s : State) : Result := numericClass 112#9 32000#16 f s

/-- `HDR.BR9.SR0` (42_header_classes.md R240). -/
def execBr9Sr0 (f : OperandBits) (s : State) : Result := numericClass 128#9 44100#16 f s

/-- `HDR.BR9.SR1` (42_header_classes.md R241). -/
def execBr9Sr1 (f : OperandBits) (s : State) : Result := numericClass 128#9 48000#16 f s

/-- `HDR.BR9.SR2` (42_header_classes.md R242). -/
def execBr9Sr2 (f : OperandBits) (s : State) : Result := numericClass 128#9 32000#16 f s

/-- `HDR.BR10.SR0` (42_header_classes.md R243). -/
def execBr10Sr0 (f : OperandBits) (s : State) : Result := numericClass 160#9 44100#16 f s

/-- `HDR.BR10.SR1` (42_header_classes.md R244). -/
def execBr10Sr1 (f : OperandBits) (s : State) : Result := numericClass 160#9 48000#16 f s

/-- `HDR.BR10.SR2` (42_header_classes.md R245). -/
def execBr10Sr2 (f : OperandBits) (s : State) : Result := numericClass 160#9 32000#16 f s

/-- `HDR.BR11.SR0` (42_header_classes.md R246). -/
def execBr11Sr0 (f : OperandBits) (s : State) : Result := numericClass 192#9 44100#16 f s

/-- `HDR.BR11.SR1` (42_header_classes.md R247). -/
def execBr11Sr1 (f : OperandBits) (s : State) : Result := numericClass 192#9 48000#16 f s

/-- `HDR.BR11.SR2` (42_header_classes.md R248). -/
def execBr11Sr2 (f : OperandBits) (s : State) : Result := numericClass 192#9 32000#16 f s

/-- `HDR.BR12.SR0` (42_header_classes.md R249). -/
def execBr12Sr0 (f : OperandBits) (s : State) : Result := numericClass 224#9 44100#16 f s

/-- `HDR.BR12.SR1` (42_header_classes.md R250). -/
def execBr12Sr1 (f : OperandBits) (s : State) : Result := numericClass 224#9 48000#16 f s

/-- `HDR.BR12.SR2` (42_header_classes.md R251). -/
def execBr12Sr2 (f : OperandBits) (s : State) : Result := numericClass 224#9 32000#16 f s

/-- `HDR.BR13.SR0` (42_header_classes.md R252). -/
def execBr13Sr0 (f : OperandBits) (s : State) : Result := numericClass 256#9 44100#16 f s

/-- `HDR.BR13.SR1` (42_header_classes.md R253). -/
def execBr13Sr1 (f : OperandBits) (s : State) : Result := numericClass 256#9 48000#16 f s

/-- `HDR.BR13.SR2` (42_header_classes.md R254). -/
def execBr13Sr2 (f : OperandBits) (s : State) : Result := numericClass 256#9 32000#16 f s

/-- `HDR.BR14.SR0` (42_header_classes.md R255). -/
def execBr14Sr0 (f : OperandBits) (s : State) : Result := numericClass 320#9 44100#16 f s

/-- `HDR.BR14.SR1` (42_header_classes.md R256). -/
def execBr14Sr1 (f : OperandBits) (s : State) : Result := numericClass 320#9 48000#16 f s

/-- `HDR.BR14.SR2` (42_header_classes.md R257). -/
def execBr14Sr2 (f : OperandBits) (s : State) : Result := numericClass 320#9 32000#16 f s

end Sys2Proof.Machine
end

