-- ==== Sys2Proof/Machine/Reserved.lean ====
section
/-!
DEFINITION. The meanings of `HDR.RSVBR` (42_header_classes.md R211) and of `HDR.RSVSR.BR0` to
`HDR.RSVSR.BR14` (R212): `DECODE` gives `Err(ReservedBitrate)` or `Err(ReservedSampleRate)`, and the
candidate is rejected by H.ERROR whatever its operand bits are.
-/

namespace Sys2Proof.Machine

/-- `HDR.RSVBR` (42_header_classes.md R211). -/
def execRsvbr (_sri : BitVec 2) (_f : OperandBits) (s : State) : Result :=
  headerError .reservedBitrate s

/-- `HDR.RSVSR.BR0` (42_header_classes.md R212). -/
def execRsvsrBr0 (_f : OperandBits) (s : State) : Result := headerError .reservedSampleRate s

/-- `HDR.RSVSR.BR1` (42_header_classes.md R212). -/
def execRsvsrBr1 (_f : OperandBits) (s : State) : Result := headerError .reservedSampleRate s

/-- `HDR.RSVSR.BR2` (42_header_classes.md R212). -/
def execRsvsrBr2 (_f : OperandBits) (s : State) : Result := headerError .reservedSampleRate s

/-- `HDR.RSVSR.BR3` (42_header_classes.md R212). -/
def execRsvsrBr3 (_f : OperandBits) (s : State) : Result := headerError .reservedSampleRate s

/-- `HDR.RSVSR.BR4` (42_header_classes.md R212). -/
def execRsvsrBr4 (_f : OperandBits) (s : State) : Result := headerError .reservedSampleRate s

/-- `HDR.RSVSR.BR5` (42_header_classes.md R212). -/
def execRsvsrBr5 (_f : OperandBits) (s : State) : Result := headerError .reservedSampleRate s

/-- `HDR.RSVSR.BR6` (42_header_classes.md R212). -/
def execRsvsrBr6 (_f : OperandBits) (s : State) : Result := headerError .reservedSampleRate s

/-- `HDR.RSVSR.BR7` (42_header_classes.md R212). -/
def execRsvsrBr7 (_f : OperandBits) (s : State) : Result := headerError .reservedSampleRate s

/-- `HDR.RSVSR.BR8` (42_header_classes.md R212). -/
def execRsvsrBr8 (_f : OperandBits) (s : State) : Result := headerError .reservedSampleRate s

/-- `HDR.RSVSR.BR9` (42_header_classes.md R212). -/
def execRsvsrBr9 (_f : OperandBits) (s : State) : Result := headerError .reservedSampleRate s

/-- `HDR.RSVSR.BR10` (42_header_classes.md R212). -/
def execRsvsrBr10 (_f : OperandBits) (s : State) : Result := headerError .reservedSampleRate s

/-- `HDR.RSVSR.BR11` (42_header_classes.md R212). -/
def execRsvsrBr11 (_f : OperandBits) (s : State) : Result := headerError .reservedSampleRate s

/-- `HDR.RSVSR.BR12` (42_header_classes.md R212). -/
def execRsvsrBr12 (_f : OperandBits) (s : State) : Result := headerError .reservedSampleRate s

/-- `HDR.RSVSR.BR13` (42_header_classes.md R212). -/
def execRsvsrBr13 (_f : OperandBits) (s : State) : Result := headerError .reservedSampleRate s

/-- `HDR.RSVSR.BR14` (42_header_classes.md R212). -/
def execRsvsrBr14 (_f : OperandBits) (s : State) : Result := headerError .reservedSampleRate s

end Sys2Proof.Machine
end

