-- ==== Sys2Proof/Machine/Dispatch.lean ====
section
/-!
DEFINITION. `exec`: what SEQ does in HeaderFound with a candidate of each header class
(42_header_classes.md R258), one arm per row of spec/opcode_table.json (assumption 11).
-/

namespace Sys2Proof.Machine

def exec (i : Instr) (s : State) : Host.Outcome State Fault Refusal :=
  match i with
  | .badsyncZ31 rest => Sys2Proof.Machine.execBadsyncZ31 rest s
  | .badsyncZ30 rest => Sys2Proof.Machine.execBadsyncZ30 rest s
  | .badsyncZ29 rest => Sys2Proof.Machine.execBadsyncZ29 rest s
  | .badsyncZ28 rest => Sys2Proof.Machine.execBadsyncZ28 rest s
  | .badsyncZ27 rest => Sys2Proof.Machine.execBadsyncZ27 rest s
  | .badsyncZ26 rest => Sys2Proof.Machine.execBadsyncZ26 rest s
  | .badsyncZ25 rest => Sys2Proof.Machine.execBadsyncZ25 rest s
  | .badsyncZ24 rest => Sys2Proof.Machine.execBadsyncZ24 rest s
  | .badsyncZ23 rest => Sys2Proof.Machine.execBadsyncZ23 rest s
  | .badsyncZ22 rest => Sys2Proof.Machine.execBadsyncZ22 rest s
  | .badsyncZ21 rest => Sys2Proof.Machine.execBadsyncZ21 rest s
  | .rsvbr sri f => Sys2Proof.Machine.execRsvbr sri f s
  | .rsvsrBr0 f => Sys2Proof.Machine.execRsvsrBr0 f s
  | .rsvsrBr1 f => Sys2Proof.Machine.execRsvsrBr1 f s
  | .rsvsrBr2 f => Sys2Proof.Machine.execRsvsrBr2 f s
  | .rsvsrBr3 f => Sys2Proof.Machine.execRsvsrBr3 f s
  | .rsvsrBr4 f => Sys2Proof.Machine.execRsvsrBr4 f s
  | .rsvsrBr5 f => Sys2Proof.Machine.execRsvsrBr5 f s
  | .rsvsrBr6 f => Sys2Proof.Machine.execRsvsrBr6 f s
  | .rsvsrBr7 f => Sys2Proof.Machine.execRsvsrBr7 f s
  | .rsvsrBr8 f => Sys2Proof.Machine.execRsvsrBr8 f s
  | .rsvsrBr9 f => Sys2Proof.Machine.execRsvsrBr9 f s
  | .rsvsrBr10 f => Sys2Proof.Machine.execRsvsrBr10 f s
  | .rsvsrBr11 f => Sys2Proof.Machine.execRsvsrBr11 f s
  | .rsvsrBr12 f => Sys2Proof.Machine.execRsvsrBr12 f s
  | .rsvsrBr13 f => Sys2Proof.Machine.execRsvsrBr13 f s
  | .rsvsrBr14 f => Sys2Proof.Machine.execRsvsrBr14 f s
  | .freeSr0 f => Sys2Proof.Machine.execFreeSr0 f s
  | .freeSr1 f => Sys2Proof.Machine.execFreeSr1 f s
  | .freeSr2 f => Sys2Proof.Machine.execFreeSr2 f s
  | .br1Sr0 f => Sys2Proof.Machine.execBr1Sr0 f s
  | .br1Sr1 f => Sys2Proof.Machine.execBr1Sr1 f s
  | .br1Sr2 f => Sys2Proof.Machine.execBr1Sr2 f s
  | .br2Sr0 f => Sys2Proof.Machine.execBr2Sr0 f s
  | .br2Sr1 f => Sys2Proof.Machine.execBr2Sr1 f s
  | .br2Sr2 f => Sys2Proof.Machine.execBr2Sr2 f s
  | .br3Sr0 f => Sys2Proof.Machine.execBr3Sr0 f s
  | .br3Sr1 f => Sys2Proof.Machine.execBr3Sr1 f s
  | .br3Sr2 f => Sys2Proof.Machine.execBr3Sr2 f s
  | .br4Sr0 f => Sys2Proof.Machine.execBr4Sr0 f s
  | .br4Sr1 f => Sys2Proof.Machine.execBr4Sr1 f s
  | .br4Sr2 f => Sys2Proof.Machine.execBr4Sr2 f s
  | .br5Sr0 f => Sys2Proof.Machine.execBr5Sr0 f s
  | .br5Sr1 f => Sys2Proof.Machine.execBr5Sr1 f s
  | .br5Sr2 f => Sys2Proof.Machine.execBr5Sr2 f s
  | .br6Sr0 f => Sys2Proof.Machine.execBr6Sr0 f s
  | .br6Sr1 f => Sys2Proof.Machine.execBr6Sr1 f s
  | .br6Sr2 f => Sys2Proof.Machine.execBr6Sr2 f s
  | .br7Sr0 f => Sys2Proof.Machine.execBr7Sr0 f s
  | .br7Sr1 f => Sys2Proof.Machine.execBr7Sr1 f s
  | .br7Sr2 f => Sys2Proof.Machine.execBr7Sr2 f s
  | .br8Sr0 f => Sys2Proof.Machine.execBr8Sr0 f s
  | .br8Sr1 f => Sys2Proof.Machine.execBr8Sr1 f s
  | .br8Sr2 f => Sys2Proof.Machine.execBr8Sr2 f s
  | .br9Sr0 f => Sys2Proof.Machine.execBr9Sr0 f s
  | .br9Sr1 f => Sys2Proof.Machine.execBr9Sr1 f s
  | .br9Sr2 f => Sys2Proof.Machine.execBr9Sr2 f s
  | .br10Sr0 f => Sys2Proof.Machine.execBr10Sr0 f s
  | .br10Sr1 f => Sys2Proof.Machine.execBr10Sr1 f s
  | .br10Sr2 f => Sys2Proof.Machine.execBr10Sr2 f s
  | .br11Sr0 f => Sys2Proof.Machine.execBr11Sr0 f s
  | .br11Sr1 f => Sys2Proof.Machine.execBr11Sr1 f s
  | .br11Sr2 f => Sys2Proof.Machine.execBr11Sr2 f s
  | .br12Sr0 f => Sys2Proof.Machine.execBr12Sr0 f s
  | .br12Sr1 f => Sys2Proof.Machine.execBr12Sr1 f s
  | .br12Sr2 f => Sys2Proof.Machine.execBr12Sr2 f s
  | .br13Sr0 f => Sys2Proof.Machine.execBr13Sr0 f s
  | .br13Sr1 f => Sys2Proof.Machine.execBr13Sr1 f s
  | .br13Sr2 f => Sys2Proof.Machine.execBr13Sr2 f s
  | .br14Sr0 f => Sys2Proof.Machine.execBr14Sr0 f s
  | .br14Sr1 f => Sys2Proof.Machine.execBr14Sr1 f s
  | .br14Sr2 f => Sys2Proof.Machine.execBr14Sr2 f s

end Sys2Proof.Machine
end

