-- ==== Sys2Proof/Machine/Sequencer.lean ====
section
/-!
DEFINITION. SEQ's own steps (43_sequencer.md R299 to R308) and the offsets they read (20_memory.md
R67). In HeaderFound the step is `exec` of the latched word's class; `headerStep` is the same step
as R308 states it for all classes at once, and no step calls it.
-/

namespace Sys2Proof.Machine

/-- The condition of `S.LIMIT` (43_sequencer.md R300). -/
def State.limitReached (s : State) : Bool := s.limitEn && decide (s.maxFrames ≤ s.frameCount)

/-- `S.LIMIT` (43_sequencer.md R300). -/
def State.stopAtLimit (s : State) : State := { s with limitHit := true, st := .exhausted }

/-- `S.EXHAUST` (43_sequencer.md R301). -/
def State.stopAtEnd (s : State) : State := { s with st := .exhausted }

/-- `S.FOUND` (43_sequencer.md R302), the word fetched being `w`. -/
def State.found (s : State) (w : Word) : State :=
  { s with hdrStart := s.cursor, hdrWord := w, st := .headerFound }

/-- `S.ADVANCE` (43_sequencer.md R303). -/
def State.advance (s : State) : State := { s with cursor := s.cursor + 1 }

/-- The step in `Searching`, its tests in the order of 43_sequencer.md R304. A read the host has not
made readable faults (assumption 4). -/
def searchStep (s : State) : Result :=
  if s.limitReached then .next s.stopAtLimit
  else if s.cursor + Config.headerBytes > s.bufLen then .next s.stopAtEnd
  else
    match syncB s.buf s.cursor with
    | none => .fault .unreadableByte
    | some false => .next s.advance
    | some true =>
      match fetch32 s.buf s.cursor with
      | none => .fault .unreadableByte
      | some w => .next (s.found w)

/-- The step in `HeaderFound` for any word at once: `DECODE_LEN(hdr_word)` evaluated once, then the
three outcomes in order (43_sequencer.md R308). -/
def headerStep (s : State) : Result :=
  match decodeLen s.hdrWord with
  | .error k => headerError k s
  | .ok (_, l) => headerDecoded l s

/-- SEQ's step, if it has one; in `FrameEmitted` and `Exhausted` it has none and nothing changes
(43_sequencer.md R299, R311; assumption 7). -/
def seqStep (s : State) : Result :=
  match s.st with
  | .searching => searchStep s
  | .headerFound => exec (decode s.hdrWord) s
  | .frameEmitted => .next s
  | .exhausted => .next s

/-- The offsets SEQ reads in its next step (20_memory.md R67): two for the sync test, and the four
of the header word when it passes. -/
def seqReads (s : State) : List Nat :=
  match s.st with
  | .searching =>
    if s.limitReached || decide (s.cursor + Config.headerBytes > s.bufLen) then []
    else if syncB s.buf s.cursor = some true then
      [s.cursor, s.cursor + 1, s.cursor + 2, s.cursor + 3]
    else [s.cursor, s.cursor + 1]
  | .headerFound => []
  | .frameEmitted => []
  | .exhausted => []

end Sys2Proof.Machine
end

