-- ==== Sys2Proof/Machine/Step.lean ====
section
/-!
DEFINITION. One event of the machine: the host's next event, or SEQ's step when the host does
nothing (assumption 6); and the state in which the next step executes a given header word
(assumption 11).
-/

namespace Sys2Proof.Machine

/-- One event. Each is atomic and none takes time (43_sequencer.md R322). -/
def step (s : State) : Host.Outcome State Fault Refusal :=
  match s.hostEvents with
  | [] => seqStep s
  | .idle :: rest => seqStep { s with hostEvents := rest }
  | .command c :: rest => hostCommand c { s with hostEvents := rest }
  | .loadBuffer bytes :: rest => .next (State.load { s with hostEvents := rest } bytes)

/-- `s` with the header word `w` as the candidate at `cursor`: in the buffer there, with room for
the longest frame, and latched as S.FOUND latches it (43_sequencer.md R302), no host event before
SEQ's next step. The bits of `w` from `nbits` on are 0. -/
def State.withFetchWord (s : State) (nbits w : Nat) : State :=
  { s with
    st := .headerFound
    hdrStart := s.cursor
    hdrWord := BitVec.ofNat 32 (w % 2 ^ nbits)
    bufLen := max s.bufLen (s.cursor + Config.maxFrameBytes)
    buf := s.buf.putWord s.cursor (BitVec.ofNat 32 (w % 2 ^ nbits))
    hostEvents := [] }

end Sys2Proof.Machine
end

