-- ==== Sys2Proof/Machine/Outputs.lean ====
section
/-!
DEFINITION. The outputs of MFHD as functions of the state (10_state.md R29, R35): levels, end
status, decode status, the presented record and its header, and the registers a host can read.
-/

namespace Sys2Proof.Machine

/-- The 2-bit code of a sequencer state (10_state.md R21). -/
def seqStateCode : SeqState → BitVec 2
  | .searching => 0#2
  | .headerFound => 1#2
  | .frameEmitted => 2#2
  | .exhausted => 3#2

/-- The end-states by name; code 3 never occurs (60_exceptions.md R355). -/
inductive EndStatus where
  | none | bufferExhausted | noFramesFound
  deriving DecidableEq, Repr

/-- `end_status` (60_exceptions.md R355). -/
def endStatus (s : State) : EndStatus :=
  if s.st ≠ .exhausted then .none
  else if s.frameCount > 0 then .bufferExhausted
  else .noFramesFound

/-- The 2-bit code of an end-state (60_exceptions.md R355). -/
def endStatusCode : EndStatus → BitVec 2
  | .none => 0#2
  | .bufferExhausted => 1#2
  | .noFramesFound => 2#2

/-- `dec_status`, the status code of `DECODE_LEN(hdr_word)` (10_state.md R29). -/
def decStatus (s : State) : BitVec 3 := (hdecPort s.hdrWord).status

/-- The header outputs, `DECODE(out_frame.word)`: all 0 when that word is no header
(10_state.md R29, R39, 40_header_decode.md R153). -/
def headerOutputs (s : State) : FrameHeader := (hdecPort s.outFrame.word).header

/-- Everything a host can read (10_state.md R29, R35). -/
structure Outputs where
  st             : BitVec 2
  frameValid     : Bool
  scanDone       : Bool
  endStatus      : BitVec 2
  limitHit       : Bool
  frameCount     : Nat
  frameStart     : Nat
  frameLength    : BitVec 11
  header         : FrameHeader
  cursor         : Nat
  decStatus      : BitVec 3
  cfgStartOffset : Nat
  bufLen         : Nat
  limitEn        : Bool
  maxFrames      : Nat
  deriving DecidableEq, Repr

/-- The outputs in a state (10_state.md R29, R35). -/
def outputs (s : State) : Outputs where
  st := seqStateCode s.st
  frameValid := frameValid s
  scanDone := scanDone s
  endStatus := endStatusCode (endStatus s)
  limitHit := s.limitHit
  frameCount := s.frameCount
  frameStart := s.outFrame.start
  frameLength := s.outFrame.length
  header := headerOutputs s
  cursor := s.cursor
  decStatus := decStatus s
  cfgStartOffset := s.cfgStartOffset
  bufLen := s.bufLen
  limitEn := s.limitEn
  maxFrames := s.maxFrames

end Sys2Proof.Machine
end

