-- ==== Sys2Proof/Machine/Scan.lean ====
section
/-!
DEFINITION. What a scan computes: the big-step function of 43_sequencer.md R316, written from the
buffer alone, and the runs of 70_reset_and_hazards.md R397, the step machine under any sequence of
Pulls and the one in which the host pulls every record. No step calls them; statements relate them.
-/

namespace Sys2Proof.Machine

/-- `accept(c)` with the record it would give: a sync pattern, a header that decodes, a length that
is not zero and a frame that fits (43_sequencer.md R316). -/
def acceptAt (b : Buffer) (bufLen c : Nat) : Option FrameRecord :=
  if c + Config.headerBytes > bufLen then none
  else
    match syncB b c, fetch32 b c with
    | some true, some w =>
      match decodeLen w with
      | .ok (_, l) => if l = 0 ∨ c + l > bufLen then none else some ⟨w, c, BitVec.ofNat 11 l⟩
      | .error _ => none
    | _, _ => none

/-- The record of the least accepted offset among the `k` offsets from `c` on. -/
def firstAccepted (b : Buffer) (bufLen : Nat) : Nat → Nat → Option FrameRecord
  | 0, _ => none
  | k + 1, c =>
    match acceptAt b bufLen c with
    | some r => some r
    | none => firstAccepted b bufLen k (c + 1)

/-- `frames(c, n)` of 43_sequencer.md R316, at most `k` records of it; `bufLen + 1` is enough for
all of them, since each takes the cursor on. -/
def framesUpTo (b : Buffer) (bufLen : Nat) (limitEn : Bool) (maxFrames : Nat) :
    Nat → Nat → Nat → List FrameRecord
  | 0, _, _ => []
  | k + 1, c, n =>
    if limitEn && decide (maxFrames ≤ n) then []
    else
      match firstAccepted b bufLen (bufLen - c) c with
      | none => []
      | some r =>
        r :: framesUpTo b bufLen limitEn maxFrames k (r.start + r.length.toNat) (n + 1)

/-- `frames(c, n)` (43_sequencer.md R316). -/
def framesFrom (b : Buffer) (bufLen : Nat) (limitEn : Bool) (maxFrames c n : Nat) :
    List FrameRecord :=
  framesUpTo b bufLen limitEn maxFrames (bufLen + 1) c n

/-! ## Runs (70_reset_and_hazards.md R397) -/

/-- One event of a run: a Pull, or nothing, so that SEQ steps if it can. None where the machine
stops. -/
def turn (pull : Bool) (s : State) : Option State :=
  match step { s with hostEvents := [if pull then .command .pull else .idle] } with
  | .next t => some t
  | .fault _ => none
  | .refused _ => none

/-- The record presented by an event from `s` to `t`: `out_frame` at the moment `st` becomes
`FrameEmitted` (70_reset_and_hazards.md R397). -/
def presentedBy (s t : State) : List FrameRecord :=
  if s.st ≠ .frameEmitted ∧ t.st = .frameEmitted then [t.outFrame] else []

/-- A run under any sequence of SEQ's turns and the host's Pulls (`true`), up to the first state
that is `Exhausted`: the records presented and the state reached. A host that stops pulling is a
sequence without further `true`. -/
def scanRun : List Bool → State → List FrameRecord × State
  | [], s => ([], s)
  | pull :: rest, s =>
    if s.st = .exhausted then ([], s)
    else
      match turn pull s with
      | some t => (presentedBy s t ++ (scanRun rest t).1, (scanRun rest t).2)
      | none => ([], s)

/-- The run of at most `k` events in which the host pulls each record when it is presented, and
only then. -/
def pullRun : Nat → State → List FrameRecord × State
  | 0, s => ([], s)
  | k + 1, s =>
    if s.st = .exhausted then ([], s)
    else
      match turn (s.st == .frameEmitted) s with
      | some t => (presentedBy s t ++ (pullRun k t).1, (pullRun k t).2)
      | none => ([], s)

end Sys2Proof.Machine
end

