-- ==== Sys2Proof/Safety.lean ====
section
/-!
DEFINITION. The terms claims about MFHD are stated in: the host's duty towards the buffer, the
invariant every event keeps, what it means to fit in `ADDR_W` bits, what two scans have in common,
and the properties of a list of Frame records.
-/

namespace Sys2Proof.Machine

/-- The host has made at least `buf_len` bytes readable (70_reset_and_hazards.md R385, R388). -/
def State.Readable (s : State) : Prop := s.bufLen ≤ s.buf.len

/-- The record's word decodes, and its length is the one `DECODE_LEN` gives, between the shortest
frame's and the longest's (10_state.md R28, R37). -/
def FrameRecord.Consistent (r : FrameRecord) : Prop :=
  (∃ h, decodeLen r.word = .ok (h, r.length.toNat)) ∧ 96 ≤ r.length.toNat ∧ r.length.toNat ≤ 1441

/-- What every event keeps, over all states, reached or not. -/
structure State.Inv (s : State) : Prop where
  /-- The scan's buffer is in its canonical form. -/
  bufCanonical : s.buf.wf = true
  /-- So is the loaded one. -/
  loadedCanonical : s.loaded.wf = true
  /-- The scan's buffer is readable up to `buf_len` (70_reset_and_hazards.md R388). -/
  readable : s.Readable
  /-- In `HeaderFound` the latched word is the one at `hdr_start`, with good sync and four bytes
  inside the buffer, and `cursor` is there too (10_state.md R22, R24, 43_sequencer.md R302). -/
  candidate : s.st = .headerFound →
    s.cursor = s.hdrStart ∧ s.hdrStart + 4 ≤ s.bufLen ∧
      fetch32 s.buf s.hdrStart = some s.hdrWord ∧ syncW s.hdrWord = true
  /-- In `FrameEmitted` `out_frame` is the record at its own offset, and `cursor` is the byte after
  it, inside the buffer (10_state.md R22, 43_sequencer.md R319). -/
  presented : s.st = .frameEmitted →
    s.outFrame.Consistent ∧ fetch32 s.buf s.outFrame.start = some s.outFrame.word ∧
      s.cursor = s.outFrame.start + s.outFrame.length.toNat ∧ s.cursor ≤ s.bufLen
  /-- `out_frame` is the reset value or a consistent record (10_state.md R28). -/
  record : s.outFrame = ⟨0#32, 0, 0#11⟩ ∨ s.outFrame.Consistent
  /-- `cursor` is beyond `buf_len` only where Start put it there (10_state.md R22). -/
  bounded : s.cursor ≤ s.bufLen ∨ s.cursor = s.cfgStartOffset
  /-- Each emitted frame took the cursor on by at least 96 bytes (10_state.md R25). -/
  counted : s.cfgStartOffset + 96 * s.frameCount ≤ s.cursor
  /-- The count never passes the limit (43_sequencer.md R300). -/
  withinLimit : s.limitEn = true → s.frameCount ≤ s.maxFrames
  /-- No candidate is looked for once the limit is reached (43_sequencer.md R304). -/
  limitOpen : s.st = .headerFound → s.limitEn = true → s.frameCount < s.maxFrames
  /-- `limit_hit` says that the limit ended the scan (10_state.md R26). -/
  limitSeen : s.limitHit = true →
    s.st = .exhausted ∧ s.limitEn = true ∧ s.maxFrames ≤ s.frameCount

/-- Every offset and count the registers hold fits in `width` bits (10_state.md R20). -/
structure State.Fits (width : Nat) (s : State) : Prop where
  cursor : s.cursor < 2 ^ width
  hdrStart : s.hdrStart < 2 ^ width
  frameCount : s.frameCount < 2 ^ width
  cfgStartOffset : s.cfgStartOffset < 2 ^ width
  bufLen : s.bufLen < 2 ^ width
  maxFrames : s.maxFrames < 2 ^ width
  outStart : s.outFrame.start < 2 ^ width

/-- The operands of a Start fit in `width` bits (43_sequencer.md R293). -/
def StartOperands.Fits (width : Nat) (o : StartOperands) : Prop :=
  o.startOffset < 2 ^ width ∧ o.bufLen < 2 ^ width ∧ o.maxFrames < 2 ^ width

/-- If the host's next event is a Start, its operands fit in `width` bits. -/
def State.NextEventFits (width : Nat) (s : State) : Prop :=
  ∀ o rest, s.hostEvents = .command (.start o) :: rest → o.Fits width

/-- The host's next event is SEQ's turn: it issues nothing. -/
def State.SeqTurn (s : State) : Prop :=
  s.hostEvents = [] ∨ ∃ rest, s.hostEvents = .idle :: rest

/-- The host's events after the next one. -/
def State.laterEvents (s : State) : List HostEvent := s.hostEvents.tail

/-- Two states scan the same buffer from the same place under the same configuration and count
(43_sequencer.md R324). -/
structure SameScan (s t : State) : Prop where
  st : s.st = t.st
  cursor : s.cursor = t.cursor
  bufLen : s.bufLen = t.bufLen
  limitEn : s.limitEn = t.limitEn
  maxFrames : s.maxFrames = t.maxFrames
  frameCount : s.frameCount = t.frameCount
  buf : s.buf = t.buf

/-- The configuration registers agree (10_state.md R27). -/
structure SameConfig (s t : State) : Prop where
  cfgStartOffset : s.cfgStartOffset = t.cfgStartOffset
  bufLen : s.bufLen = t.bufLen
  limitEn : s.limitEn = t.limitEn
  maxFrames : s.maxFrames = t.maxFrames

/-- What a rejected candidate leaves alone: everything but `cursor` and `st` (60_exceptions.md
R350). -/
structure RejectFrame (s t : State) : Prop where
  config : SameConfig s t
  hdrStart : s.hdrStart = t.hdrStart
  hdrWord : s.hdrWord = t.hdrWord
  frameCount : s.frameCount = t.frameCount
  limitHit : s.limitHit = t.limitHit
  outFrame : s.outFrame = t.outFrame
  bufLength : s.buf.len = t.buf.len
  bytes : ∀ a, s.buf.read a = t.buf.read a
  loaded : s.loaded = t.loaded
  hostEvents : s.hostEvents = t.hostEvents

/-- What no candidate's outcome touches, emitted or rejected (43_sequencer.md R307). -/
structure OutcomeFrame (s t : State) : Prop where
  config : SameConfig s t
  hdrStart : s.hdrStart = t.hdrStart
  hdrWord : s.hdrWord = t.hdrWord
  limitHit : s.limitHit = t.limitHit
  bufLength : s.buf.len = t.buf.len
  bytes : ∀ a, s.buf.read a = t.buf.read a
  loaded : s.loaded = t.loaded
  hostEvents : s.hostEvents = t.hostEvents

/-- Frames in ascending order from offset `c` on and not overlapping (43_sequencer.md R319 (a)). -/
def Ascending : Nat → List FrameRecord → Prop
  | _, [] => True
  | c, r :: rest => c ≤ r.start ∧ Ascending (r.start + r.length.toNat) rest

end Sys2Proof.Machine
end

