-- ==== Sys2Proof/Certificates/Slice0/Obligations.lean ====
section
/-!
DEFINITION. The statements about MFHD, each from the rules its docstring cites, and the predicates
they share.
-/

open Sys2Proof Sys2Proof.Machine

namespace Sys2Proof.Claims

/-! ## Shared terms -/

/-- The state after a rejected candidate (43_sequencer.md R305, R306). -/
def Rejected (s : State) : State := { s with cursor := s.hdrStart + 1, st := .searching }

/-- The state after a frame of `l` bytes is emitted (43_sequencer.md R307). -/
def Emitted (s : State) (l : Nat) : State :=
  { s with
    outFrame := ⟨s.hdrWord, s.hdrStart, BitVec.ofNat 11 l⟩
    frameCount := s.frameCount + 1
    cursor := s.hdrStart + l
    st := .frameEmitted }

/-- The header carries the operand bits unchanged. -/
structure CopiesOperands (h : FrameHeader) (f : OperandBits) : Prop where
  versionId : h.versionId = f.versionId
  layer : h.layer = f.layer
  protectionAbsent : h.protectionAbsent = f.protectionAbsent
  padding : h.padding = f.padding
  privateBit : h.privateBit = f.privateBit
  channelMode : h.channelMode = f.channelMode
  modeExtension : h.modeExtension = f.modeExtension
  copyright : h.copyright = f.copyright
  original : h.original = f.original
  emphasis : h.emphasis = f.emphasis

/-- The header's flags as 40_header_decode.md R146 to R149 give them. -/
structure FlagsOf (h : FrameHeader) (f : OperandBits) : Prop where
  versionReserved : h.versionReserved = true ↔ f.versionId = 1#2
  layerReserved : h.layerReserved = true ↔ f.layer = 0#2
  emphasisReserved : h.emphasisReserved = true ↔ f.emphasis = 2#2
  isValid : h.isValid = true ↔ f.versionId ≠ 1#2 ∧ f.layer ≠ 0#2

/-- The row's match and mask select exactly the words with good sync and these two indices, and the
decoder gives each of them the row's constructor with the word's own operand bits. -/
def SelectsIndices (mk : OperandBits → Instr) (r : Row) (bri : BitVec 4) (sri : BitVec 2) : Prop :=
  ∀ w, (r.selects w = true ↔ xSync w = 0x7FF#11 ∧ xBridx w = bri ∧ xSridx w = sri) ∧
    (r.selects w = true → decode w = mk (operandBitsOf w))

/-- One numeric row: its constructor, match bits, indices, and the three numbers of its rule, with
the remainder of the division. -/
structure NumericRow where
  build : OperandBits → Instr
  matchBits : Word
  bri : BitVec 4
  sri : BitVec 2
  kbps : BitVec 9
  hz : BitVec 16
  base : Nat
  remainder : Nat

/-- What a rule of 42_header_classes.md, section 3, says of its row: what it selects, the header and
the length `DECODE_LEN` gives, the flags, and SEQ's outcome in `HeaderFound`, for all operand bits. -/
def NumericRow.Rule (r : NumericRow) : Prop :=
  SelectsIndices r.build ⟨r.matchBits, 0xFFE0FC00#32⟩ r.bri r.sri ∧
  144000 * r.kbps.toNat = r.base * r.hz.toNat + r.remainder ∧ r.remainder < r.hz.toNat ∧
  ∀ f : OperandBits,
    (∃ h, decodeLen (encode (r.build f)) = .ok (h, r.base + f.padding.toNat) ∧
      h.bitrateKbps = r.kbps ∧ h.bitrateFree = false ∧ h.sampleRateHz = r.hz ∧
      CopiesOperands h f ∧ FlagsOf h f) ∧
    ∀ s : State, s.st = .headerFound →
      (s.hdrStart + (r.base + f.padding.toNat) ≤ s.bufLen →
        exec (r.build f) s = .next (Emitted s (r.base + f.padding.toNat))) ∧
      (s.bufLen < s.hdrStart + (r.base + f.padding.toNat) →
        exec (r.build f) s = .next (Rejected s))

/-- What a rule of 42_header_classes.md, section 2, says of its row. -/
def FreeRule (mk : OperandBits → Instr) (matchBits : Word) (sri : BitVec 2) (hz : BitVec 16) : Prop :=
  SelectsIndices mk ⟨matchBits, 0xFFE0FC00#32⟩ 0#4 sri ∧
  ∀ f : OperandBits,
    (∃ h, decodeLen (encode (mk f)) = .ok (h, 0) ∧ h.bitrateFree = true ∧ h.bitrateKbps = 0#9 ∧
      h.sampleRateHz = hz ∧ CopiesOperands h f ∧ FlagsOf h f) ∧
    ∀ s : State, s.st = .headerFound → exec (mk f) s = .next (Rejected s)

/-- The eleven BadSync rows: the first zero sync bit and the constructor. -/
def badSyncRows : List (Nat × (Nat → Instr)) :=
  [
    (31, .badsyncZ31),
    (30, .badsyncZ30),
    (29, .badsyncZ29),
    (28, .badsyncZ28),
    (27, .badsyncZ27),
    (26, .badsyncZ26),
    (25, .badsyncZ25),
    (24, .badsyncZ24),
    (23, .badsyncZ23),
    (22, .badsyncZ22),
    (21, .badsyncZ21) ]

/-- The fifteen rows with a reserved sample rate: the bitrate index and the constructor. -/
def reservedSampleRateRows : List (BitVec 4 × (OperandBits → Instr)) :=
  [
    (0#4, .rsvsrBr0),
    (1#4, .rsvsrBr1),
    (2#4, .rsvsrBr2),
    (3#4, .rsvsrBr3),
    (4#4, .rsvsrBr4),
    (5#4, .rsvsrBr5),
    (6#4, .rsvsrBr6),
    (7#4, .rsvsrBr7),
    (8#4, .rsvsrBr8),
    (9#4, .rsvsrBr9),
    (10#4, .rsvsrBr10),
    (11#4, .rsvsrBr11),
    (12#4, .rsvsrBr12),
    (13#4, .rsvsrBr13),
    (14#4, .rsvsrBr14) ]

/-- The numeric rows of bitrate indices 1 to 4 (42_header_classes.md R216 to R227). -/
def numericRows1to4 : List NumericRow :=
  [
    ⟨.br1Sr0, 0xFFE01000#32, 1#4, 0#2, 32#9, 44100#16, 104, 21600⟩,
    ⟨.br1Sr1, 0xFFE01400#32, 1#4, 1#2, 32#9, 48000#16, 96, 0⟩,
    ⟨.br1Sr2, 0xFFE01800#32, 1#4, 2#2, 32#9, 32000#16, 144, 0⟩,
    ⟨.br2Sr0, 0xFFE02000#32, 2#4, 0#2, 40#9, 44100#16, 130, 27000⟩,
    ⟨.br2Sr1, 0xFFE02400#32, 2#4, 1#2, 40#9, 48000#16, 120, 0⟩,
    ⟨.br2Sr2, 0xFFE02800#32, 2#4, 2#2, 40#9, 32000#16, 180, 0⟩,
    ⟨.br3Sr0, 0xFFE03000#32, 3#4, 0#2, 48#9, 44100#16, 156, 32400⟩,
    ⟨.br3Sr1, 0xFFE03400#32, 3#4, 1#2, 48#9, 48000#16, 144, 0⟩,
    ⟨.br3Sr2, 0xFFE03800#32, 3#4, 2#2, 48#9, 32000#16, 216, 0⟩,
    ⟨.br4Sr0, 0xFFE04000#32, 4#4, 0#2, 56#9, 44100#16, 182, 37800⟩,
    ⟨.br4Sr1, 0xFFE04400#32, 4#4, 1#2, 56#9, 48000#16, 168, 0⟩,
    ⟨.br4Sr2, 0xFFE04800#32, 4#4, 2#2, 56#9, 32000#16, 252, 0⟩ ]

/-- The numeric rows of bitrate indices 5 to 8 (42_header_classes.md R228 to R239). -/
def numericRows5to8 : List NumericRow :=
  [
    ⟨.br5Sr0, 0xFFE05000#32, 5#4, 0#2, 64#9, 44100#16, 208, 43200⟩,
    ⟨.br5Sr1, 0xFFE05400#32, 5#4, 1#2, 64#9, 48000#16, 192, 0⟩,
    ⟨.br5Sr2, 0xFFE05800#32, 5#4, 2#2, 64#9, 32000#16, 288, 0⟩,
    ⟨.br6Sr0, 0xFFE06000#32, 6#4, 0#2, 80#9, 44100#16, 261, 9900⟩,
    ⟨.br6Sr1, 0xFFE06400#32, 6#4, 1#2, 80#9, 48000#16, 240, 0⟩,
    ⟨.br6Sr2, 0xFFE06800#32, 6#4, 2#2, 80#9, 32000#16, 360, 0⟩,
    ⟨.br7Sr0, 0xFFE07000#32, 7#4, 0#2, 96#9, 44100#16, 313, 20700⟩,
    ⟨.br7Sr1, 0xFFE07400#32, 7#4, 1#2, 96#9, 48000#16, 288, 0⟩,
    ⟨.br7Sr2, 0xFFE07800#32, 7#4, 2#2, 96#9, 32000#16, 432, 0⟩,
    ⟨.br8Sr0, 0xFFE08000#32, 8#4, 0#2, 112#9, 44100#16, 365, 31500⟩,
    ⟨.br8Sr1, 0xFFE08400#32, 8#4, 1#2, 112#9, 48000#16, 336, 0⟩,
    ⟨.br8Sr2, 0xFFE08800#32, 8#4, 2#2, 112#9, 32000#16, 504, 0⟩ ]

/-- The numeric rows of bitrate indices 9 to 12 (42_header_classes.md R240 to R251). -/
def numericRows9to12 : List NumericRow :=
  [
    ⟨.br9Sr0, 0xFFE09000#32, 9#4, 0#2, 128#9, 44100#16, 417, 42300⟩,
    ⟨.br9Sr1, 0xFFE09400#32, 9#4, 1#2, 128#9, 48000#16, 384, 0⟩,
    ⟨.br9Sr2, 0xFFE09800#32, 9#4, 2#2, 128#9, 32000#16, 576, 0⟩,
    ⟨.br10Sr0, 0xFFE0A000#32, 10#4, 0#2, 160#9, 44100#16, 522, 19800⟩,
    ⟨.br10Sr1, 0xFFE0A400#32, 10#4, 1#2, 160#9, 48000#16, 480, 0⟩,
    ⟨.br10Sr2, 0xFFE0A800#32, 10#4, 2#2, 160#9, 32000#16, 720, 0⟩,
    ⟨.br11Sr0, 0xFFE0B000#32, 11#4, 0#2, 192#9, 44100#16, 626, 41400⟩,
    ⟨.br11Sr1, 0xFFE0B400#32, 11#4, 1#2, 192#9, 48000#16, 576, 0⟩,
    ⟨.br11Sr2, 0xFFE0B800#32, 11#4, 2#2, 192#9, 32000#16, 864, 0⟩,
    ⟨.br12Sr0, 0xFFE0C000#32, 12#4, 0#2, 224#9, 44100#16, 731, 18900⟩,
    ⟨.br12Sr1, 0xFFE0C400#32, 12#4, 1#2, 224#9, 48000#16, 672, 0⟩,
    ⟨.br12Sr2, 0xFFE0C800#32, 12#4, 2#2, 224#9, 32000#16, 1008, 0⟩ ]

/-- The numeric rows of bitrate indices 13 and 14 (42_header_classes.md R252 to R257). -/
def numericRows13to14 : List NumericRow :=
  [
    ⟨.br13Sr0, 0xFFE0D000#32, 13#4, 0#2, 256#9, 44100#16, 835, 40500⟩,
    ⟨.br13Sr1, 0xFFE0D400#32, 13#4, 1#2, 256#9, 48000#16, 768, 0⟩,
    ⟨.br13Sr2, 0xFFE0D800#32, 13#4, 2#2, 256#9, 32000#16, 1152, 0⟩,
    ⟨.br14Sr0, 0xFFE0E000#32, 14#4, 0#2, 320#9, 44100#16, 1044, 39600⟩,
    ⟨.br14Sr1, 0xFFE0E400#32, 14#4, 1#2, 320#9, 48000#16, 960, 0⟩,
    ⟨.br14Sr2, 0xFFE0E800#32, 14#4, 2#2, 320#9, 32000#16, 1440, 0⟩ ]

/-- All 42 numeric rows. -/
def numericRows : List NumericRow :=
  numericRows1to4 ++ numericRows5to8 ++ numericRows9to12 ++ numericRows13to14

/-- Classes whose candidates are always rejected: everything but the numeric rows
(42_header_classes.md R258). -/
def AlwaysRejected (i : Instr) : Prop :=
  (∃ p ∈ badSyncRows, ∃ rest, i = p.2 rest) ∨ (∃ sri f, i = .rsvbr sri f) ∨
  (∃ p ∈ reservedSampleRateRows, ∃ f, i = p.2 f) ∨
  ∃ f, i = .freeSr0 f ∨ i = .freeSr1 f ∨ i = .freeSr2 f

/-- The numeric bitrates by index (30_encoding.md R104). -/
def kbpsTable : List Nat := [0, 32, 40, 48, 56, 64, 80, 96, 112, 128, 160, 192, 224, 256, 320]

/-- The sample rates by index (30_encoding.md R105). -/
def hzTable : List Nat := [44100, 48000, 32000]

/-- Each record is the one of the least accepted offset from `c`, the end of the record before it,
on (43_sequencer.md R319 (c)). -/
def LeastAccepted (b : Buffer) (bufLen : Nat) : Nat → List FrameRecord → Prop
  | _, [] => True
  | c, r :: rest =>
    acceptAt b bufLen r.start = some r ∧
      (∀ c', c ≤ c' → c' < r.start → acceptAt b bufLen c' = none) ∧
      LeastAccepted b bufLen (r.start + r.length.toNat) rest

/-- Every register holds the value 70_reset_and_hazards.md R380 gives it. -/
structure ResetValues (t : State) : Prop where
  st : t.st = .exhausted
  cursor : t.cursor = 0
  hdrStart : t.hdrStart = 0
  hdrWord : t.hdrWord = 0#32
  frameCount : t.frameCount = 0
  limitHit : t.limitHit = false
  cfgStartOffset : t.cfgStartOffset = 0
  bufLen : t.bufLen = 0
  limitEn : t.limitEn = false
  maxFrames : t.maxFrames = 0
  outWord : t.outFrame.word = 0#32
  outStart : t.outFrame.start = 0
  outLength : t.outFrame.length = 0#11

/-- A run from `s` is over with the records of the big-step function: every one counted, and
`limit_hit` set exactly when the limit ended the scan (43_sequencer.md R316). -/
structure EndsWithFrames (s : State) (r : List FrameRecord × State) : Prop where
  records : r.1 = framesFrom s.buf s.bufLen s.limitEn s.maxFrames s.cursor s.frameCount
  ended : r.2.st = .exhausted
  count : r.2.frameCount = s.frameCount + r.1.length
  limit : r.2.limitHit = true ↔ s.limitEn = true ∧ s.maxFrames ≤ r.2.frameCount

/-- Two runs have the same result (70_reset_and_hazards.md R397). -/
structure SameResult (r r' : List FrameRecord × State) : Prop where
  records : r.1 = r'.1
  count : r.2.frameCount = r'.2.frameCount
  limit : r.2.limitHit = r'.2.limitHit
  ending : endStatus r.2 = endStatus r'.2

/-- An outcome with the buffer of its next state replaced. -/
def withBuffer (b : Buffer) : Result → Result
  | .next t => .next { t with buf := b }
  | .fault r => .fault r
  | .refused r => .refused r

end Sys2Proof.Claims

open Sys2Proof.Claims

/-! ## Encoding -/

/-- Decoding the word of a well-formed instruction gives the instruction back, all 72 rows and every
operand value (30_encoding.md R110 to R115, R120). -/
def Obligations.DecodeOfEncodeIsTheInstruction : Prop :=
  ∀ i : Instr, i.wellFormed = true → decode (encode i) = i

/-- Every word is the word of the well-formed instruction it decodes to (30_encoding.md R116). -/
def Obligations.EncodeOfDecodeIsTheWord : Prop :=
  ∀ w : Word, (decode w).wellFormed = true ∧ encode (decode w) = w

/-- The class map is total and unambiguous: 72 rows, and a word is in the row of the instruction it
decodes to and in no other (30_encoding.md R110 to R116). -/
def Obligations.EveryWordIsInExactlyOneRow : Prop :=
  opcodeRows.length = 72 ∧
  ∀ w : Word, (decode w).row ∈ opcodeRows ∧ (decode w).row.selects w = true ∧
    ∀ r ∈ opcodeRows, r.selects w = true → r = (decode w).row

/-- The BadSync rows have the match and mask bits 30_encoding.md R111 lists, a word is in one when its
first zero sync bit is the row's, they are disjoint, and together they select exactly the words
whose leading 11 bits are not all ones. -/
def Obligations.BadSyncRowsSplitTheBadSyncWords : Prop :=
  badSyncRows.map (fun p => (p.1, badSyncRow p.1)) =
    [(31, ⟨0x00000000#32, 0x80000000#32⟩), (30, ⟨0x80000000#32, 0xC0000000#32⟩),
      (29, ⟨0xC0000000#32, 0xE0000000#32⟩), (28, ⟨0xE0000000#32, 0xF0000000#32⟩),
      (27, ⟨0xF0000000#32, 0xF8000000#32⟩), (26, ⟨0xF8000000#32, 0xFC000000#32⟩),
      (25, ⟨0xFC000000#32, 0xFE000000#32⟩), (24, ⟨0xFE000000#32, 0xFF000000#32⟩),
      (23, ⟨0xFF000000#32, 0xFF800000#32⟩), (22, ⟨0xFF800000#32, 0xFFC00000#32⟩),
      (21, ⟨0xFFC00000#32, 0xFFE00000#32⟩)] ∧
  (∀ p ∈ badSyncRows, ∀ w : Word, (badSyncRow p.1).selects w = true ↔
    w.getLsbD p.1 = false ∧ ∀ b, p.1 < b → b < 32 → w.getLsbD b = true) ∧
  (∀ p ∈ badSyncRows, ∀ rest, (p.2 rest).row = badSyncRow p.1) ∧
  (∀ w : Word, (∃ p ∈ badSyncRows, (badSyncRow p.1).selects w = true) ↔ xSync w ≠ 0x7FF#11) ∧
  ∀ w : Word, ∀ p ∈ badSyncRows, ∀ q ∈ badSyncRows,
    (badSyncRow p.1).selects w = true → (badSyncRow q.1).selects w = true → p.1 = q.1

/-- Words written out from the format decode to the classes and operands they stand for
(95_test_vectors.md V2 and section 3): one of each family at least. -/
def Obligations.WordsOfTheSpecDecodeRight : Prop :=
  decode 0xFFFB9064#32 = .br9Sr0 ⟨3#2, 1#2, true, false, false, 1#2, 2#2, false, true, 0#2⟩ ∧
  decode 0xFFE2A3BA#32 = .br10Sr0 ⟨0#2, 1#2, false, true, true, 2#2, 3#2, true, false, 2#2⟩ ∧
  decode 0xFFFD5A5D#32 = .br5Sr2 ⟨3#2, 2#2, true, true, false, 1#2, 1#2, true, true, 1#2⟩ ∧
  decode 0xFFFB0200#32 = .freeSr0 ⟨3#2, 1#2, true, true, false, 0#2, 0#2, false, false, 0#2⟩ ∧
  decode 0xFFFB9C00#32 = .rsvsrBr9 ⟨3#2, 1#2, true, false, false, 0#2, 0#2, false, false, 0#2⟩ ∧
  decode 0xFFFFFFFF#32 = .rsvbr 3#2 ⟨3#2, 3#2, true, true, true, 3#2, 3#2, true, true, 3#2⟩ ∧
  decode 0xFFDB9000#32 = .badsyncZ21 0x1B9000 ∧
  decode 0x7FFB9000#32 = .badsyncZ31 0x7FFB9000

/-- The notation `HDR(...)` is the sum of 30_encoding.md R120, each argument is the field of its
place, and the rule's example holds. -/
def Obligations.HdrNotationSetsEachField : Prop :=
  (∀ a : HdrArgs, a.wellFormed = true →
    a.word.toNat = 0xFFE00000 + a.ver * 2 ^ 19 + a.lay * 2 ^ 17 + a.prot * 2 ^ 16 + a.br * 2 ^ 12 +
      a.sr * 2 ^ 10 + a.pad * 2 ^ 9 + a.priv * 2 ^ 8 + a.cm * 2 ^ 6 + a.mx * 2 ^ 4 +
      a.copy * 2 ^ 3 + a.orig * 2 ^ 2 + a.emph ∧
    xSync a.word = 0x7FF#11 ∧ (xVer a.word).toNat = a.ver ∧ (xLayer a.word).toNat = a.lay ∧
    (xProt a.word).toNat = a.prot ∧ (xBridx a.word).toNat = a.br ∧ (xSridx a.word).toNat = a.sr ∧
    (xPad a.word).toNat = a.pad ∧ (xPriv a.word).toNat = a.priv ∧ (xChmode a.word).toNat = a.cm ∧
    (xModext a.word).toNat = a.mx ∧ (xCopy a.word).toNat = a.copy ∧
    (xOrig a.word).toNat = a.orig ∧ (xEmph a.word).toNat = a.emph) ∧
  HdrArgs.word { ver := 3, lay := 1, prot := 1, br := 9, sr := 0 } = 0xFFFB9000#32

/-- Each field is the word under its mask, shifted down; the masks are disjoint and cover the word
(30_encoding.md R90). -/
def Obligations.FieldsByMaskAndShift : Prop :=
  (∀ w : Word,
    (xSync w).toNat = ((w &&& 0xFFE00000#32) >>> 21).toNat ∧
    (xVer w).toNat = ((w &&& 0x00180000#32) >>> 19).toNat ∧
    (xLayer w).toNat = ((w &&& 0x00060000#32) >>> 17).toNat ∧
    (xProt w).toNat = ((w &&& 0x00010000#32) >>> 16).toNat ∧
    (xBridx w).toNat = ((w &&& 0x0000F000#32) >>> 12).toNat ∧
    (xSridx w).toNat = ((w &&& 0x00000C00#32) >>> 10).toNat ∧
    (xPad w).toNat = ((w &&& 0x00000200#32) >>> 9).toNat ∧
    (xPriv w).toNat = ((w &&& 0x00000100#32) >>> 8).toNat ∧
    (xChmode w).toNat = ((w &&& 0x000000C0#32) >>> 6).toNat ∧
    (xModext w).toNat = ((w &&& 0x00000030#32) >>> 4).toNat ∧
    (xCopy w).toNat = ((w &&& 0x00000008#32) >>> 3).toNat ∧
    (xOrig w).toNat = ((w &&& 0x00000004#32) >>> 2).toNat ∧
    (xEmph w).toNat = (w &&& 0x00000003#32).toNat) ∧
  List.Pairwise (fun a b : Word => a &&& b = 0#32)
    [0xFFE00000#32, 0x00180000#32, 0x00060000#32, 0x00010000#32, 0x0000F000#32, 0x00000C00#32,
      0x00000200#32, 0x00000100#32, 0x000000C0#32, 0x00000030#32, 0x00000008#32, 0x00000004#32,
      0x00000003#32] ∧
  List.sum
    [0xFFE00000, 0x00180000, 0x00060000, 0x00010000, 0x0000F000, 0x00000C00, 0x00000200,
      0x00000100, 0x000000C0, 0x00000030, 0x00000008, 0x00000004, 0x00000003] = 0xFFFFFFFF

/-- The fields in the four bytes of a header, the first byte the most significant
(30_encoding.md R92, 20_memory.md R63). -/
def Obligations.FieldsByByte : Prop :=
  ∀ b0 b1 b2 b3 : Byte, ∀ w : Word, w = assemble b0 b1 b2 b3 →
    w.toNat = b0.toNat * 2 ^ 24 + b1.toNat * 2 ^ 16 + b2.toNat * 2 ^ 8 + b3.toNat ∧
    b0 = (xSync w).extractLsb' 3 8 ∧ b1.extractLsb' 5 3 = (xSync w).extractLsb' 0 3 ∧
    b1.extractLsb' 3 2 = xVer w ∧ b1.extractLsb' 1 2 = xLayer w ∧ b1.getLsbD 0 = xProt w ∧
    b2.extractLsb' 4 4 = xBridx w ∧ b2.extractLsb' 2 2 = xSridx w ∧ b2.getLsbD 1 = xPad w ∧
    b2.getLsbD 0 = xPriv w ∧ b3.extractLsb' 6 2 = xChmode w ∧ b3.extractLsb' 4 2 = xModext w ∧
    b3.getLsbD 3 = xCopy w ∧ b3.getLsbD 2 = xOrig w ∧ b3.extractLsb' 0 2 = xEmph w

/-- The names of the enumerated values (30_encoding.md R94 to R97). -/
def Obligations.EnumeratedValuesByName : Prop :=
  [versionName 0#2, versionName 1#2, versionName 2#2, versionName 3#2] =
    [.mpeg25, .reserved, .mpeg2, .mpeg1] ∧
  [layerName 0#2, layerName 1#2, layerName 2#2, layerName 3#2] =
    [.reserved, .layerIII, .layerII, .layerI] ∧
  [channelModeName 0#2, channelModeName 1#2, channelModeName 2#2, channelModeName 3#2] =
    [.stereo, .jointStereo, .dualChannel, .mono] ∧
  [emphasisName 0#2, emphasisName 1#2, emphasisName 2#2, emphasisName 3#2] =
    [.none, .us50_15, .reserved, .ccittJ17]

/-! ## HDEC -/

/-- `DECODE` in full: the three errors in their order, and else the header with all thirteen fields
and the derived members, the tables written out (40_header_decode.md R151, R146 to R149,
30_encoding.md R104, R105). -/
def Obligations.DecodeGivesEveryMember : Prop :=
  ∀ w : Word,
    (xSync w ≠ 0x7FF#11 → decodeHeader w = .error .badSync) ∧
    (xSync w = 0x7FF#11 → xBridx w = 15#4 → decodeHeader w = .error .reservedBitrate) ∧
    (xSync w = 0x7FF#11 → xBridx w ≠ 15#4 → xSridx w = 3#2 →
      decodeHeader w = .error .reservedSampleRate) ∧
    (xSync w = 0x7FF#11 → xBridx w ≠ 15#4 → xSridx w ≠ 3#2 →
      decodeHeader w = .ok
        { sync := 0x7FF#11
          versionId := xVer w
          layer := xLayer w
          protectionAbsent := xProt w
          bitrateIndex := xBridx w
          sampleRateIndex := xSridx w
          padding := xPad w
          privateBit := xPriv w
          channelMode := xChmode w
          modeExtension := xModext w
          copyright := xCopy w
          original := xOrig w
          emphasis := xEmph w
          bitrateKbps := BitVec.ofNat 9 (kbpsTable[(xBridx w).toNat]?.getD 0)
          bitrateFree := decide (xBridx w = 0#4)
          sampleRateHz := BitVec.ofNat 16 (hzTable[(xSridx w).toNat]?.getD 0)
          versionReserved := decide (xVer w = 1#2)
          layerReserved := decide (xLayer w = 0#2)
          emphasisReserved := decide (xEmph w = 2#2)
          isValid := decide (xVer w ≠ 1#2) && decide (xLayer w ≠ 0#2) })

/-- `DECODE` fails with BadSync on exactly the words whose leading 11 bits are not all ones
(40_header_decode.md R154). -/
def Obligations.BadSyncExactlyWithoutSync : Prop :=
  ∀ w : Word, decodeHeader w = .error .badSync ↔ xSync w ≠ 0x7FF#11

/-- With good sync, bitrate index 15 and sample-rate index 3 always give their reserved error, and
no number stands on the outputs (40_header_decode.md R157). -/
def Obligations.ReservedIndicesNeverGiveANumber : Prop :=
  ∀ w : Word, xSync w = 0x7FF#11 → xBridx w = 15#4 ∨ xSridx w = 3#2 →
    decodeHeader w = .error (if xBridx w = 15#4 then .reservedBitrate else .reservedSampleRate) ∧
    (hdecPort w).header.bitrateKbps = 0#9 ∧ (hdecPort w).header.sampleRateHz = 0#16

/-- The status codes, and the outputs of a standalone HDEC and FLEN: 0 beside the values when there
is a header, else the code with every value output 0; 5, 6 and 7 never occur
(40_header_decode.md R153). -/
def Obligations.PortsCarryTheResult : Prop :=
  errorCode .badSync = 1#3 ∧ errorCode .reservedBitrate = 2#3 ∧
  errorCode .reservedSampleRate = 3#3 ∧ errorCode .divisionByZero = 4#3 ∧
  ∀ w : Word,
    (∀ h l, decodeLen w = .ok (h, l) →
      (hdecPort w).status = 0#3 ∧ (hdecPort w).header = h ∧ (hdecPort w).length.toNat = l) ∧
    (∀ k, decodeLen w = .error k →
      hdecPort w = ⟨errorCode k,
        ⟨0#11, 0#2, 0#2, false, 0#4, 0#2, false, false, 0#2, 0#2, false, false, 0#2, 0#9, false,
          0#16, false, false, false, false⟩, 0#11⟩) ∧
    (hdecPort w).status ≠ 5#3 ∧ (hdecPort w).status ≠ 6#3 ∧ (hdecPort w).status ≠ 7#3

/-! ## SYNC and FLEN -/

/-- The sync pattern on a word and on two bytes, by mask and compare, with the corner cases
(41_sync_and_length.md R180, R181). -/
def Obligations.SyncPatternByMask : Prop :=
  (∀ w : Word, syncW w = true ↔ w &&& 0xFFE00000#32 = 0xFFE00000#32) ∧
  (∀ b0 b1 : Byte, syncBytes b0 b1 = true ↔ b0 = 0xFF#8 ∧ b1 &&& 0xE0#8 = 0xE0#8) ∧
  (∀ (b : Buffer) (a : Nat) (v0 v1 : Byte), b.read a = some v0 → b.read (a + 1) = some v1 →
    syncB b a = some (syncBytes v0 v1)) ∧
  syncW 0xFFE00000#32 = true ∧ syncW 0xFFDFFFFF#32 = false ∧ syncW 0x7FFFFFFF#32 = false

/-- `FETCH32` assembles its four bytes big-endian at every offset where they are readable, aligned
or not, and is none elsewhere (41_sync_and_length.md R182, 20_memory.md R63, R66). -/
def Obligations.FetchIsBigEndianAtAnyOffset : Prop :=
  ∀ (b : Buffer) (a : Nat),
    (a + 4 ≤ b.len → ∃ v0 v1 v2 v3 w, b.read a = some v0 ∧ b.read (a + 1) = some v1 ∧
      b.read (a + 2) = some v2 ∧ b.read (a + 3) = some v3 ∧ fetch32 b a = some w ∧
      w.toNat = v0.toNat * 2 ^ 24 + v1.toNat * 2 ^ 16 + v2.toNat * 2 ^ 8 + v3.toNat) ∧
    (b.len < a + 4 → fetch32 b a = none)

/-- The sync test on the bytes agrees with the sync test on the word fetched there
(41_sync_and_length.md R183). -/
def Obligations.SyncOnBytesIsSyncOnTheWord : Prop :=
  ∀ (b : Buffer) (a : Nat), a + 4 ≤ b.len →
    ∃ w, fetch32 b a = some w ∧ syncB b a = some (syncW w)

/-- The table of base lengths with the remainders of the divisions, and the length with padding, at
all 42 index pairs (41_sync_and_length.md R189). -/
def Obligations.LengthTable : Prop :=
  numericRows.length = 42 ∧
  ∀ r ∈ numericRows,
    lookupBitrate r.bri = .ok (false, r.kbps) ∧ lookupSampleRate r.sri = .ok r.hz ∧
    144000 * r.kbps.toNat / r.hz.toNat = r.base ∧
    144000 * r.kbps.toNat % r.hz.toNat = r.remainder ∧
    ∀ pad : Bool, frameLength r.kbps false r.hz pad = .ok (r.base + pad.toNat)

/-- The arithmetic laws of FLEN for every header that decodes with a numeric bitrate: the product
fits 26 bits, the divisor is one of three, quotient and length lie within their bounds, the division
is exact but at 44100 Hz, and the remainder is discarded (41_sync_and_length.md R186). -/
def Obligations.LengthArithmeticIsBounded : Prop :=
  ∀ (w : Word) (h : FrameHeader) (l : Nat), decodeLen w = .ok (h, l) → h.bitrateFree = false →
    144000 * h.bitrateKbps.toNat ≤ 46080000 ∧ 46080000 < 2 ^ 26 ∧
    (h.sampleRateHz = 44100#16 ∨ h.sampleRateHz = 48000#16 ∨ h.sampleRateHz = 32000#16) ∧
    l = 144000 * h.bitrateKbps.toNat / h.sampleRateHz.toNat + h.padding.toNat ∧
    96 ≤ 144000 * h.bitrateKbps.toNat / h.sampleRateHz.toNat ∧
    144000 * h.bitrateKbps.toNat / h.sampleRateHz.toNat ≤ 1440 ∧
    96 ≤ l ∧ l ≤ 1441 ∧ 1441 < 2 ^ 11 ∧
    (144000 * h.bitrateKbps.toNat % h.sampleRateHz.toNat = 0 ↔ h.sampleRateHz ≠ 44100#16)

/-- DivisionByZero: FLEN's first test, free format or not; no header `DECODE` returns has the rate
0, so `DECODE_LEN` never gives it (41_sync_and_length.md R187, 60_exceptions.md R345). -/
def Obligations.DivisionByZeroOnlyStandalone : Prop :=
  (∀ (kbps : BitVec 9) (free pad : Bool), frameLength kbps free 0#16 pad = .error .divisionByZero) ∧
  (∀ (w : Word) (h : FrameHeader), decodeHeader w = .ok h → h.sampleRateHz ≠ 0#16) ∧
  ∀ w : Word, decodeLen w ≠ .error .divisionByZero

/-- A header that decodes has length 0 exactly when its bitrate index is 0, with or without padding,
and SEQ never emits a frame for a word with that index (41_sync_and_length.md R188). -/
def Obligations.FreeFormatHasLengthZero : Prop :=
  (∀ (w : Word) (h : FrameHeader) (l : Nat), decodeLen w = .ok (h, l) →
    (l = 0 ↔ xBridx w = 0#4)) ∧
  ∀ s t : State, s.st = .headerFound → xBridx s.hdrWord = 0#4 → seqStep s = .next t →
    t.st ≠ .frameEmitted

/-- Two headers with the same two indices and a numeric bitrate differ in length by their padding
bits and nothing else: one byte for padding at every layer, and no other field counts
(41_sync_and_length.md R185, R190). -/
def Obligations.PaddingAddsOneByteAtEveryLayer : Prop :=
  ∀ (w w' : Word) (h h' : FrameHeader) (l l' : Nat),
    decodeLen w = .ok (h, l) → decodeLen w' = .ok (h', l') → h.bitrateFree = false →
    xBridx w = xBridx w' → xSridx w = xSridx w' →
    l + (xPad w').toNat = l' + (xPad w).toNat

/-! ## The header classes -/

/-- HDR.BADSYNC (42_header_classes.md R210): what the eleven rows select, the error, that no step
latches such a word, H.ERROR were it to occur, and the advance by one byte while searching. -/
def Obligations.BadSyncClassRule : Prop :=
  (∀ w : Word, xSync w ≠ 0x7FF#11 ↔ ∃ p ∈ badSyncRows, ∃ rest, decode w = p.2 rest) ∧
  (∀ p ∈ badSyncRows, ∀ rest, rest < 2 ^ p.1 →
    xSync (encode (p.2 rest)) ≠ 0x7FF#11 ∧
    decodeHeader (encode (p.2 rest)) = .error .badSync ∧
    decodeLen (encode (p.2 rest)) = .error .badSync ∧
    (∀ s : State, s.st = .headerFound → exec (p.2 rest) s = .next (Rejected s)) ∧
    ∀ s : State, s.st = .searching → ¬ (s.limitEn = true ∧ s.maxFrames ≤ s.frameCount) →
      s.cursor + 4 ≤ s.bufLen → fetch32 s.buf s.cursor = some (encode (p.2 rest)) →
      seqStep s = .next { s with cursor := s.cursor + 1 }) ∧
  ∀ s t : State, s.st = .searching → seqStep s = .next t → t.st = .headerFound →
    xSync t.hdrWord = 0x7FF#11

/-- HDR.RSVBR (42_header_classes.md R211): what it selects, the error whatever the operands, H.ERROR,
and that three bytes 0xFF in a row make one. -/
def Obligations.ReservedBitrateClassRule : Prop :=
  (∀ w : Word, ((⟨0xFFE0F000#32, 0xFFE0F000#32⟩ : Row).selects w = true ↔
      xSync w = 0x7FF#11 ∧ xBridx w = 15#4) ∧
    ((⟨0xFFE0F000#32, 0xFFE0F000#32⟩ : Row).selects w = true →
      decode w = .rsvbr (xSridx w) (operandBitsOf w))) ∧
  (∀ (sri : BitVec 2) (f : OperandBits),
    decodeHeader (encode (.rsvbr sri f)) = .error .reservedBitrate ∧
    decodeLen (encode (.rsvbr sri f)) = .error .reservedBitrate ∧
    ∀ s : State, s.st = .headerFound → exec (.rsvbr sri f) s = .next (Rejected s)) ∧
  ∀ b3 : Byte, decodeHeader (assemble 0xFF#8 0xFF#8 0xFF#8 b3) = .error .reservedBitrate

/-- HDR.RSVSR (42_header_classes.md R212): what each of the fifteen rows selects, the error whatever
the operands, free format included, and H.ERROR. -/
def Obligations.ReservedSampleRateClassRule : Prop :=
  ∀ p ∈ reservedSampleRateRows,
    SelectsIndices p.2 ⟨BitVec.ofNat 32 (0xFFE00C00 + p.1.toNat * 0x1000), 0xFFE0FC00#32⟩ p.1 3#2 ∧
    ∀ f : OperandBits,
      decodeHeader (encode (p.2 f)) = .error .reservedSampleRate ∧
      decodeLen (encode (p.2 f)) = .error .reservedSampleRate ∧
      ∀ s : State, s.st = .headerFound → exec (p.2 f) s = .next (Rejected s)

/-- HDR.FREE.SR0 to SR2 (42_header_classes.md R213 to R215). -/
def Obligations.FreeFormatClassRules : Prop :=
  FreeRule .freeSr0 0xFFE00000#32 0#2 44100#16 ∧ FreeRule .freeSr1 0xFFE00400#32 1#2 48000#16 ∧
  FreeRule .freeSr2 0xFFE00800#32 2#2 32000#16

/-- HDR.BR1.SR0 to HDR.BR4.SR2 (42_header_classes.md R216 to R227). -/
def Obligations.NumericClassRules1to4 : Prop := ∀ r ∈ numericRows1to4, r.Rule

/-- HDR.BR5.SR0 to HDR.BR8.SR2 (42_header_classes.md R228 to R239). -/
def Obligations.NumericClassRules5to8 : Prop := ∀ r ∈ numericRows5to8, r.Rule

/-- HDR.BR9.SR0 to HDR.BR12.SR2 (42_header_classes.md R240 to R251). -/
def Obligations.NumericClassRules9to12 : Prop := ∀ r ∈ numericRows9to12, r.Rule

/-- HDR.BR13.SR0 to HDR.BR14.SR2 (42_header_classes.md R252 to R257). -/
def Obligations.NumericClassRules13to14 : Prop := ∀ r ∈ numericRows13to14, r.Rule

/-- The class-by-class meanings of 42_header_classes.md are one function of `DECODE_LEN`: what `exec`
does with the class of the latched word is what 43_sequencer.md R308 says for every word
(42_header_classes.md R258). -/
def Obligations.ClassMeaningsAgreeWithDecodeLen : Prop :=
  ∀ s : State, exec (decode s.hdrWord) s =
    match decodeLen s.hdrWord with
    | .error _ => .next (Rejected s)
    | .ok (_, l) =>
      if l = 0 then .next (Rejected s)
      else if s.hdrStart + l > s.bufLen then .next (Rejected s)
      else .next (Emitted s l)

/-- Nothing in the buffer stops the machine: every class has its outcome in every state, and SEQ has
its step wherever the buffer is readable up to `buf_len` (60_exceptions.md R362). -/
def Obligations.NothingInTheBufferStopsTheMachine : Prop :=
  (∀ (i : Instr) (s : State), ∃ t, exec i s = .next t) ∧
  ∀ s : State, s.Readable → ∃ t, seqStep s = .next t

/-- Frame of the classes that are always rejected (BADSYNC, RSVBR, RSVSR, FREE): only `cursor` and
`st` change, and every byte of the buffer reads as before (60_exceptions.md R350, R352). -/
def Obligations.RejectedClassesFrame : Prop :=
  ∀ (i : Instr) (s t : State), AlwaysRejected i → exec i s = .next t →
    t.cursor = s.hdrStart + 1 ∧ t.st = .searching ∧ RejectFrame s t

/-- Frame of the numeric classes: the configuration, `hdr_start`, `hdr_word`, `limit_hit` and every
byte of the buffer stay; a frame that is not emitted leaves `frame_count` and `out_frame` too, and
one that is raises the count by one and leaves the cursor at the frame's end
(43_sequencer.md R306, R307). -/
def Obligations.NumericClassesFrame : Prop :=
  ∀ r ∈ numericRows, ∀ (f : OperandBits) (s t : State), exec (r.build f) s = .next t →
    OutcomeFrame s t ∧
    ((t.st = .searching ∧ t.cursor = s.hdrStart + 1 ∧ RejectFrame s t) ∨
      (t.st = .frameEmitted ∧ t.frameCount = s.frameCount + 1 ∧
        t.outFrame.word = s.hdrWord ∧ t.outFrame.start = s.hdrStart ∧
        t.cursor = t.outFrame.start + t.outFrame.length.toNat))

/-! ## SEQ -/

/-- In `HeaderFound`, when the host issues nothing, an event is `exec` of the class of the latched
word; the host's events after this one are kept (43_sequencer.md R299). -/
def Obligations.StepRunsTheLatchedWord : Prop :=
  ∀ s : State, s.SeqTurn → s.st = .headerFound →
    step s = exec (decode s.hdrWord) { s with hostEvents := s.laterEvents }

/-- Fetch and execute: while searching below the limit, with four readable bytes at the cursor that
decode to `i` and begin with the sync pattern, one event latches their word and the next runs `i`
(43_sequencer.md R302, 20_memory.md R74). -/
def Obligations.FetchThenRunTheDecodedInstruction : Prop :=
  ∀ (s : State) (b0 b1 b2 b3 : Byte) (i : Instr),
    s.hostEvents = [] → s.st = .searching → ¬ (s.limitEn = true ∧ s.maxFrames ≤ s.frameCount) →
    s.cursor + 4 ≤ s.bufLen → memRead s.buf s.cursor 4 = some [b0, b1, b2, b3] →
    decodeBytes [b0, b1, b2, b3] = .ok (i, []) → syncBytes b0 b1 = true →
    ∃ t, step s = .next t ∧
      t = { s with hdrStart := s.cursor, hdrWord := assemble b0 b1 b2 b3, st := .headerFound } ∧
      step t = exec i t

/-- The whole transition table, the host's commands apart (43_sequencer.md R311), for a buffer
readable up to `buf_len`. -/
def Obligations.TransitionTable : Prop :=
  ∀ s : State, s.Readable →
    (s.st = .searching → ∃ sync, seqStep s =
      (if s.limitEn = true ∧ s.frameCount ≥ s.maxFrames then
        .next { s with limitHit := true, st := .exhausted }
      else if s.cursor + 4 > s.bufLen then .next { s with st := .exhausted }
      else if sync = true then
        .next { s with hdrStart := s.cursor, hdrWord := (fetch32 s.buf s.cursor).getD 0#32,
                       st := .headerFound }
      else .next { s with cursor := s.cursor + 1 }) ∧
      (s.cursor + 4 ≤ s.bufLen →
        syncB s.buf s.cursor = some sync ∧ (fetch32 s.buf s.cursor).isSome = true)) ∧
    (s.st = .headerFound → seqStep s =
      match decodeLen s.hdrWord with
      | .error _ => .next { s with cursor := s.hdrStart + 1, st := .searching }
      | .ok (_, l) =>
        if l = 0 ∨ s.hdrStart + l > s.bufLen then
          .next { s with cursor := s.hdrStart + 1, st := .searching }
        else .next (Emitted s l)) ∧
    (s.st = .frameEmitted → s.pull = { s with st := .searching } ∧ seqStep s = .next s) ∧
    (s.st = .exhausted → s.pull = s ∧ seqStep s = .next s)

/-- `S.LIMIT` (43_sequencer.md R300): tested first, reads no byte, and with a limit of 0 it is the
first step after Start; and no event takes the count beyond the limit, in any state that meets the
invariant. -/
def Obligations.LimitEndsTheScan : Prop :=
  (∀ s : State, s.st = .searching → s.limitEn = true → s.maxFrames ≤ s.frameCount →
    seqStep s = .next { s with limitHit := true, st := .exhausted } ∧ seqReads s = []) ∧
  (∀ (s : State) (o : StartOperands), o.limitEn = true → o.maxFrames = 0 →
    seqStep (s.start o) = .next { s.start o with limitHit := true, st := .exhausted }) ∧
  ∀ s t : State, s.Inv → step s = .next t → t.limitEn = true → t.frameCount ≤ t.maxFrames

/-- `S.EXHAUST` (43_sequencer.md R301): fewer than four bytes from the cursor on end the scan without
a read, whatever lies in the buffer. -/
def Obligations.EndOfBufferEndsTheScan : Prop :=
  ∀ s : State, s.st = .searching → ¬ (s.limitEn = true ∧ s.maxFrames ≤ s.frameCount) →
    s.bufLen < s.cursor + 4 → seqStep s = .next { s with st := .exhausted } ∧ seqReads s = []

/-- `S.FOUND` (43_sequencer.md R302): the candidate's offset and word are latched, the cursor stays,
and the word latched has good sync. -/
def Obligations.SyncLatchesTheCandidate : Prop :=
  ∀ s : State, s.st = .searching → s.Readable → ¬ (s.limitEn = true ∧ s.maxFrames ≤ s.frameCount) →
    s.cursor + 4 ≤ s.bufLen → syncB s.buf s.cursor = some true →
    ∃ w, fetch32 s.buf s.cursor = some w ∧ syncW w = true ∧
      seqStep s = .next { s with hdrStart := s.cursor, hdrWord := w, st := .headerFound } ∧
      seqReads s = [s.cursor, s.cursor + 1, s.cursor + 2, s.cursor + 3]

/-- `S.ADVANCE` (43_sequencer.md R303): without the pattern at the cursor, one byte on, to at most
`buf_len - 3`. -/
def Obligations.NoSyncAdvancesOneByte : Prop :=
  ∀ s : State, s.st = .searching → ¬ (s.limitEn = true ∧ s.maxFrames ≤ s.frameCount) →
    s.cursor + 4 ≤ s.bufLen → syncB s.buf s.cursor = some false →
    seqStep s = .next { s with cursor := s.cursor + 1 } ∧ s.cursor + 1 ≤ s.bufLen - 3 ∧
      seqReads s = [s.cursor, s.cursor + 1]

/-- SEQ has no step in `FrameEmitted` and `Exhausted`: when the host issues nothing, an event changes
nothing (43_sequencer.md R299, R310; assumption 7). -/
def Obligations.WaitingStatesStay : Prop :=
  ∀ s : State, s.SeqTurn → s.st = .frameEmitted ∨ s.st = .exhausted →
    step s = .next { s with hostEvents := s.laterEvents }

/-- Every offset read lies inside the buffer, and SEQ's step depends on no byte but those it reads:
with any other buffer that agrees on them it does the same (20_memory.md R62, R67). -/
def Obligations.ReadsStayInsideAndAreAllThatCounts : Prop :=
  (∀ s : State, ∀ a ∈ seqReads s, a < s.bufLen) ∧
  ∀ (s : State) (b : Buffer), (∀ a ∈ seqReads s, b.read a = s.buf.read a) →
    seqStep { s with buf := b } = withBuffer b (seqStep s)

/-! ## The host -/

/-- Reset is accepted in every state and sets every register to its reset value, and `State.reset`
has the same values (43_sequencer.md R292, 70_reset_and_hazards.md R380). -/
def Obligations.ResetSetsEveryRegister : Prop :=
  (∀ (s : State) (rest : List HostEvent), s.hostEvents = .command .reset :: rest →
    ∃ t, step s = .next t ∧ ResetValues t) ∧
  ResetValues State.reset

/-- The outputs after Reset (70_reset_and_hazards.md R382). -/
def Obligations.OutputsAfterReset : Prop :=
  ∀ s : State,
    (outputs s.resetRegisters).frameValid = false ∧ (outputs s.resetRegisters).scanDone = true ∧
    (outputs s.resetRegisters).endStatus = 2#2 ∧ (outputs s.resetRegisters).limitHit = false ∧
    (outputs s.resetRegisters).frameCount = 0 ∧ (outputs s.resetRegisters).decStatus = 1#3

/-- Start is accepted in every state and loads the configuration, the cursor, the count and the flag;
`hdr_start`, `hdr_word` and `out_frame` stay (10_state.md R40, 43_sequencer.md R294). The premise is
the host's duty that `bl` is no more than the loaded buffer's length; a larger one is in
`UnreadableBufferHasNoMove`. The buffer the scan reads from then on is in
`LoadedBufferIsTakenByTheNextStart`. -/
def Obligations.StartBeginsAScan : Prop :=
  ∀ (s : State) (o : StartOperands) (rest : List HostEvent),
    s.hostEvents = .command (.start o) :: rest → o.bufLen ≤ s.loaded.len →
    ∃ t, step s = .next t ∧
      t = { s with
        cfgStartOffset := o.startOffset, bufLen := o.bufLen, limitEn := o.limitEn,
        maxFrames := o.maxFrames, cursor := o.startOffset, frameCount := 0, limitHit := false,
        st := .searching, buf := t.buf, hostEvents := rest } ∧
      frameValid t = false ∧ scanDone t = false

/-- Pull resumes the search in `FrameEmitted` and changes nothing in any other state
(43_sequencer.md R309, R297). -/
def Obligations.PullOnlyTakesAPresentedRecord : Prop :=
  ∀ (s : State) (rest : List HostEvent), s.hostEvents = .command .pull :: rest →
    (s.st = .frameEmitted → step s = .next { s with st := .searching, hostEvents := rest }) ∧
    (s.st ≠ .frameEmitted → step s = .next { s with hostEvents := rest })

/-- The model's own choices (assumptions 8 and 9): Reset and Start issued together are one event, at
which Reset wins (60_exceptions.md, section 3); the host's buffers and later events stay, and Reset
alone does the same. -/
def Obligations.ResetWinsOverStart : Prop :=
  ∀ (s : State) (o : StartOperands) (rest : List HostEvent),
    s.hostEvents = .command (.resetWithStart o) :: rest ∨ s.hostEvents = .command .reset :: rest →
    step s = .next { State.reset with buf := s.buf, loaded := s.loaded, hostEvents := rest }

/-- The model's own choice (assumption 5): the host may load a buffer in every state, also while a
scan runs on another one; nothing but `loaded` changes, and it holds exactly the given bytes. The
next Start, in mid-scan too, takes it by reference (70_reset_and_hazards.md R387, R390, R394). -/
def Obligations.LoadedBufferIsTakenByTheNextStart : Prop :=
  (∀ (s : State) (bytes : List Byte) (rest : List HostEvent),
    s.hostEvents = .loadBuffer bytes :: rest →
    ∃ b : Buffer, step s = .next { s with loaded := b, hostEvents := rest } ∧
      b.len = bytes.length ∧ b.wf = true ∧ ∀ a, b.read a = bytes[a]?) ∧
  ∀ (s : State) (bytes : List Byte) (o : StartOperands) (rest : List HostEvent),
    s.hostEvents = .loadBuffer bytes :: .command (.start o) :: rest → o.bufLen ≤ bytes.length →
    ∃ t u, step s = .next t ∧ step t = .next u ∧ u.st = .searching ∧ u.cursor = o.startOffset ∧
      u.bufLen = o.bufLen ∧ u.outFrame = s.outFrame ∧ u.hostEvents = rest ∧
      ∀ a, u.buf.read a = bytes[a]?

/-- The model's own choice (assumption 4): a `buf_len` beyond the readable buffer has no move. Start
is a fault exactly for a `bl` larger than the loaded buffer's length, and from states that meet the
invariant nothing else is a fault; in any other state a Searching step is a fault exactly where it
would read a byte that is not readable. -/
def Obligations.UnreadableBufferHasNoMove : Prop :=
  (∀ (s : State) (o : StartOperands) (rest : List HostEvent),
    s.hostEvents = .command (.start o) :: rest →
    (step s = .fault .bufLenBeyondBuffer ↔ s.loaded.len < o.bufLen)) ∧
  (∀ (s : State) (r : Fault), s.Inv → step s = .fault r →
    r = .bufLenBeyondBuffer ∧ ∃ o rest, s.hostEvents = .command (.start o) :: rest) ∧
  ∀ s : State, s.st = .searching →
    (seqStep s = .fault .unreadableByte ↔ ∃ a ∈ seqReads s, s.buf.read a = none)

/-- No event writes a buffer (20_memory.md R61). That a Start takes the loaded buffer as it is, and
that the loaded one changes only when the host loads another, is the model's own choice (assumption
5); that Reset leaves both buffers as they are is the model's own reading (assumption 9). -/
def Obligations.BufferIsNeverWritten : Prop :=
  ∀ s t : State, step s = .next t →
    ((∀ o rest, s.hostEvents ≠ .command (.start o) :: rest) →
      t.buf = s.buf ∧ ∀ a, t.buf.read a = s.buf.read a) ∧
    ((∃ o rest, s.hostEvents = .command (.start o) :: rest) →
      t.buf = s.loaded ∧ ∀ a, t.buf.read a = s.loaded.read a) ∧
    ((∀ bytes rest, s.hostEvents ≠ .loadBuffer bytes :: rest) →
      t.loaded = s.loaded ∧ ∀ a, t.loaded.read a = s.loaded.read a)

/-- Only Start and Reset write the configuration registers (43_sequencer.md R295,
70_reset_and_hazards.md R391). -/
def Obligations.ConfigurationIsLatchedAtStart : Prop :=
  ∀ s t : State, step s = .next t →
    (∀ o rest, s.hostEvents ≠ .command (.start o) :: rest) →
    (∀ rest, s.hostEvents ≠ .command .reset :: rest) →
    (∀ o rest, s.hostEvents ≠ .command (.resetWithStart o) :: rest) →
    SameConfig s t

/-- `end_status` and its codes, and that the end by limit is told apart by `limit_hit` alone
(60_exceptions.md R355, R356). -/
def Obligations.EndStatusByStateAndCount : Prop :=
  (∀ s : State,
    (s.st ≠ .exhausted → (outputs s).endStatus = 0#2) ∧
    (s.st = .exhausted → 0 < s.frameCount → (outputs s).endStatus = 1#2) ∧
    (s.st = .exhausted → s.frameCount = 0 → (outputs s).endStatus = 2#2) ∧
    (outputs s).endStatus ≠ 3#2 ∧ (outputs s.resetRegisters).endStatus = 2#2) ∧
  ∀ s t : State, s.st = .searching → s.limitEn = true → s.maxFrames ≤ s.frameCount →
    seqStep s = .next t →
    t.limitHit = true ∧ (outputs t).endStatus = if s.frameCount = 0 then 2#2 else 1#2

/-! ## Invariants -/

/-- The invariant holds after Reset. -/
def Obligations.InvariantHoldsAtReset : Prop := State.reset.Inv

/-- Every event, of SEQ or of the host, keeps the invariant: the buffer's canonical form, the latched
candidate, the presented record, the bounds of the cursor and of the count (10_state.md R22, R24,
R25, R26, R28, 43_sequencer.md R300, R319). -/
def Obligations.EveryEventKeepsTheInvariant : Prop :=
  ∀ s t : State, s.Inv → step s = .next t → t.Inv

/-- For every width of at least 12 bits that the operands of each Start fit, the offset and count
registers never outgrow it, and the two comparisons fit one bit more (43_sequencer.md R318). -/
def Obligations.OffsetsNeverOutgrowTheirWidth : Prop :=
  ∀ (width : Nat) (s t : State), 12 ≤ width → s.Inv → s.Fits width → s.NextEventFits width →
    step s = .next t →
    t.Fits width ∧ s.cursor + 4 < 2 ^ (width + 1) ∧
      ∀ h l, decodeLen s.hdrWord = .ok (h, l) → s.hdrStart + l < 2 ^ (width + 1)

/-- Between two visits to `Searching` the cursor strictly increases (43_sequencer.md R317): an
advance by 1, a rejection to one byte after the candidate, an emission by at least 96 bytes. -/
def Obligations.CursorGrowsBetweenSearches : Prop :=
  ∀ s t : State, s.Inv → seqStep s = .next t →
    (s.st = .searching → t.st = .searching → t.cursor = s.cursor + 1) ∧
    (s.st = .searching → t.st = .headerFound → t.cursor = s.cursor) ∧
    (s.st = .headerFound → t.st = .searching → t.cursor = s.cursor + 1) ∧
    (s.st = .headerFound → t.st = .frameEmitted → s.cursor + 96 ≤ t.cursor) ∧
    (s.st = .frameEmitted → s.pull.cursor = s.cursor)

/-! ## Scans -/

/-- A scan ends: from any Searching state with a readable buffer, with the host pulling every record,
it is `Exhausted` after at most two steps of SEQ for each byte left and one more, and one Pull a
record. When the host has stopped pulling, a presented record waits for ever
(43_sequencer.md R317). -/
def Obligations.ScanEndsWithinItsBound : Prop :=
  (∀ s : State, s.st = .searching → s.Readable →
    ∃ k, k ≤ 2 * (s.bufLen - s.cursor) + 1 + (pullRun k s).1.length ∧
      (pullRun k s).2.st = .exhausted) ∧
  ∀ (s : State) (n : Nat), s.st = .frameEmitted →
    (scanRun (List.replicate n false) s).1 = [] ∧
    (scanRun (List.replicate n false) s).2.st = .frameEmitted ∧
    (scanRun (List.replicate n false) s).2.outFrame = s.outFrame

/-- The step machine computes the big-step function: from any Searching state with a readable buffer,
with the host pulling every record, the records presented are `frames` of the cursor and the count;
the scan ends with `limit_hit` set exactly when the limit ended it, and counts every record
(43_sequencer.md R316). Whatever turns SEQ and the host's Pulls take, the records presented so far
are a prefix of `frames`, and all of them when the run is over (70_reset_and_hazards.md R397). -/
def Obligations.ScanPresentsExactlyTheFrames : Prop :=
  ∀ s : State, s.st = .searching → s.Readable → s.limitHit = false →
    (∃ k, ∀ n, k ≤ n → EndsWithFrames s (pullRun n s)) ∧
    ∀ events : List Bool,
      (scanRun events s).1 <+:
        framesFrom s.buf s.bufLen s.limitEn s.maxFrames s.cursor s.frameCount ∧
      ((scanRun events s).2.st = .exhausted → EndsWithFrames s (scanRun events s))

/-- The frames a scan presents, however far it has run and whenever the host pulls: in order and not
overlapping, each the least accepted one after the last, each with sync, header and length as
decoded at its own offset and inside the buffer, no more than the limit, and no more than fit
(43_sequencer.md R319). -/
def Obligations.FramesOfAScanAreOrderedAndFit : Prop :=
  ∀ (s0 : State) (o : StartOperands) (events : List Bool) (frames : List FrameRecord),
    (s0.start o).Readable → frames = (scanRun events (s0.start o)).1 →
    Ascending o.startOffset frames ∧
    (∀ r ∈ frames, syncB s0.loaded r.start = some true ∧ fetch32 s0.loaded r.start = some r.word ∧
      r.Consistent ∧ r.start + 4 ≤ r.start + r.length.toNat ∧
      r.start + r.length.toNat ≤ o.bufLen) ∧
    LeastAccepted s0.loaded o.bufLen o.startOffset frames ∧
    (o.limitEn = true → frames.length ≤ o.maxFrames) ∧
    frames.length ≤ (o.bufLen - o.startOffset) / 96

/-- A scan's result depends on the buffer and the operands of its Start alone: two machines with the
same loaded buffer, whatever their registers and their last scan's buffer hold, present the same
records and end alike, under the same turns and with every record pulled (43_sequencer.md R324). -/
def Obligations.ScansAreIndependentOfThePast : Prop :=
  ∀ (s t : State) (o : StartOperands), s.loaded = t.loaded →
    (∀ events, SameResult (scanRun events (s.start o)) (scanRun events (t.start o))) ∧
    ∀ n, SameResult (pullRun n (s.start o)) (pullRun n (t.start o))
end

