-- ==== Sys2Proof/Laws/Buffer.lean ====
section
/-!
SUPPORT. The laws of the buffer: a byte put is the byte read, every other byte stays, every
operation keeps the canonical form, and buffers in that form with the same bytes are equal.
-/

namespace Sys2Proof.Machine

/-- Weakening the lower bound of the canonical form. -/
theorem cellsWf_mono {lo lo' len : Nat} (h : lo' ≤ lo) :
    ∀ {cs : List Host.Cell}, cellsWf lo len cs = true → cellsWf lo' len cs = true
  | [], _ => rfl
  | (a, v) :: rest, hw => by
    simp only [cellsWf, Bool.and_eq_true, decide_eq_true_eq] at hw ⊢
    exact ⟨⟨⟨by omega, hw.1.1.2⟩, hw.1.2⟩, hw.2⟩

/-- Raising the upper bound of the canonical form. -/
theorem cellsWf_len_mono {len len' : Nat} (h : len ≤ len') :
    ∀ {cs : List Host.Cell} {lo : Nat}, cellsWf lo len cs = true → cellsWf lo len' cs = true
  | [], _, _ => rfl
  | (a, v) :: rest, lo, hw => by
    simp only [cellsWf, Bool.and_eq_true, decide_eq_true_eq] at hw ⊢
    exact ⟨⟨⟨hw.1.1.1, by omega⟩, hw.1.2⟩, cellsWf_len_mono h hw.2⟩

/-- No offset below the lower bound is listed. -/
theorem byteAt_below {len : Nat} :
    ∀ {cs : List Host.Cell} {lo k : Nat}, cellsWf lo len cs = true → k < lo → byteAt cs k = 0#8
  | [], _, _, _, _ => rfl
  | (a, v) :: rest, lo, k, hw, hk => by
    simp only [cellsWf, Bool.and_eq_true, decide_eq_true_eq] at hw
    have hne : ¬ a = k := by omega
    simp only [byteAt, hne, if_false]
    exact byteAt_below hw.2 (by omega)

theorem setByte_wf {len : Nat} :
    ∀ {cs : List Host.Cell} {lo k : Nat} {v : Byte}, cellsWf lo len cs = true → lo ≤ k → k < len →
      cellsWf lo len (setByte cs k v) = true
  | [], lo, k, v, _, hlo, hlen => by
    by_cases hv : v = 0#8
    · simp [setByte, hv, cellsWf]
    · simp [setByte, hv, cellsWf, hlo, hlen]
  | (a, u) :: rest, lo, k, v, hw, hlo, hlen => by
    simp only [cellsWf, Bool.and_eq_true, decide_eq_true_eq] at hw
    obtain ⟨⟨⟨h1, h2⟩, h3⟩, h4⟩ := hw
    rw [setByte]
    split
    · simp only [cellsWf, Bool.and_eq_true, decide_eq_true_eq]
      exact ⟨⟨⟨h1, h2⟩, h3⟩, setByte_wf h4 (by omega) hlen⟩
    · split
      · rename_i hak
        subst hak
        split
        · exact cellsWf_mono (by omega) h4
        · rename_i hv
          simp [cellsWf, hlo, hlen, hv, h4]
      · split
        · simp [cellsWf, h1, h2, h4] at h3 ⊢
          exact h3
        · rename_i hak _ hv
          have hk : k + 1 ≤ a := by omega
          simp [cellsWf, hlo, hlen, hv, hk, h2, h4] at h3 ⊢
          exact h3

theorem byteAt_setByte {len : Nat} :
    ∀ {cs : List Host.Cell} {lo k : Nat} {v : Byte} (j : Nat), cellsWf lo len cs = true →
      byteAt (setByte cs k v) j = if j = k then v else byteAt cs j
  | [], lo, k, v, j, _ => by
    by_cases hv : v = 0#8
    · by_cases hj : j = k <;> simp [setByte, hv, byteAt, hj]
    · by_cases hj : j = k
      · simp [setByte, hv, byteAt, hj]
      · have : ¬ k = j := fun h => hj h.symm
        simp [setByte, hv, byteAt, hj, this]
  | (a, u) :: rest, lo, k, v, j, hw => by
    simp only [cellsWf, Bool.and_eq_true, decide_eq_true_eq] at hw
    obtain ⟨⟨⟨h1, h2⟩, h3⟩, h4⟩ := hw
    rw [setByte]
    split
    · rename_i hlt
      by_cases haj : a = j
      · have : ¬ j = k := by omega
        simp [byteAt, haj, this]
      · simp only [byteAt, haj, if_false, byteAt_setByte j h4]
    · split
      · rename_i hak
        by_cases hjk : j = k
        · have hbelow : byteAt rest j = 0#8 := byteAt_below h4 (by omega)
          by_cases hv : v = 0#8
          · simp [hv, hjk] at hbelow ⊢
            exact hbelow
          · simp [hv, byteAt, hjk]
        · have hkj : ¬ k = j := fun h => hjk h.symm
          have haj : ¬ a = j := by omega
          by_cases hv : v = 0#8 <;> simp [hv, byteAt, hjk, hkj, haj]
      · rename_i hnlt hne
        by_cases hjk : j = k
        · have haj : ¬ a = j := by omega
          have hbelow : byteAt rest j = 0#8 := byteAt_below h4 (by omega)
          by_cases hv : v = 0#8
          · rw [if_pos hv, if_pos hjk, byteAt, if_neg haj, hbelow, hv]
          · simp [hv, byteAt, hjk]
        · have hkj : ¬ k = j := fun h => hjk h.symm
          by_cases hv : v = 0#8 <;> simp [hv, byteAt, hjk, hkj]

theorem cellsOf_wf {len : Nat} :
    ∀ {bytes : List Byte} {k : Nat}, k + bytes.length ≤ len → cellsWf k len (cellsOf k bytes) = true
  | [], _, _ => rfl
  | v :: rest, k, h => by
    simp only [List.length_cons] at h
    have hr : cellsWf (k + 1) len (cellsOf (k + 1) rest) = true := cellsOf_wf (by omega)
    rw [cellsOf]
    split
    · exact cellsWf_mono (by omega) hr
    · rename_i hv
      have hk : k < len := by omega
      simp [cellsWf, hv, hr, hk]

theorem byteAt_cellsOf :
    ∀ {bytes : List Byte} {k j : Nat}, k ≤ j →
      byteAt (cellsOf k bytes) j = (bytes[j - k]?).getD 0#8
  | [], _, _, _ => rfl
  | v :: rest, k, j, h => by
    have hw : cellsWf (k + 1) (k + 1 + rest.length) (cellsOf (k + 1) rest) = true :=
      cellsOf_wf (by omega)
    by_cases hj : j = k
    · subst hj
      have hb : byteAt (cellsOf (j + 1) rest) j = 0#8 := byteAt_below hw (by omega)
      by_cases hv : v = 0#8 <;> simp [cellsOf, hv, byteAt, hb]
    · have hkj : ¬ k = j := fun e => hj e.symm
      have hd : j - k = (j - (k + 1)) + 1 := by omega
      have hi : byteAt (cellsOf (k + 1) rest) j = (rest[j - (k + 1)]?).getD 0 :=
        byteAt_cellsOf (by omega)
      rw [hd, List.getElem?_cons_succ]
      by_cases hv : v = 0#8 <;> simp [cellsOf, hv, byteAt, hkj, hi]

/-- A byte is readable exactly below the readable length. -/
theorem Buffer.read_isSome (b : Buffer) (a : Nat) : (b.read a).isSome = true ↔ a < b.len := by
  unfold Buffer.read
  split <;> simp_all

theorem Buffer.put_wf {b : Buffer} (k : Nat) (v : Byte) (h : b.wf = true) :
    (b.put k v).wf = true := by
  unfold Buffer.put
  split
  · rename_i hk
    exact setByte_wf h (Nat.zero_le k) hk
  · exact h

@[simp] theorem Buffer.put_len (b : Buffer) (k : Nat) (v : Byte) : (b.put k v).len = b.len := by
  unfold Buffer.put
  split <;> rfl

/-- A byte put is the byte read there, and every other byte stays. -/
theorem Buffer.read_put {b : Buffer} (k : Nat) (v : Byte) (a : Nat) (h : b.wf = true) :
    (b.put k v).read a = if a = k ∧ k < b.len then some v else b.read a := by
  unfold Buffer.put
  split
  · rename_i hk
    unfold Buffer.read
    simp only [byteAt_setByte a h]
    by_cases hak : a = k
    · subst hak; simp [hk]
    · simp [hak]
  · rename_i hk
    simp [hk]

theorem Buffer.extend_wf {b : Buffer} (n : Nat) (h : b.wf = true) : (b.extend n).wf = true :=
  cellsWf_len_mono (Nat.le_max_left _ _) h

@[simp] theorem Buffer.extend_len (b : Buffer) (n : Nat) : (b.extend n).len = max b.len n := rfl

/-- Every operation that fills the buffer keeps the canonical form. -/
theorem Buffer.putWord_wf {b : Buffer} (a : Nat) (w : Word) (h : b.wf = true) :
    (b.putWord a w).wf = true :=
  put_wf _ _ (put_wf _ _ (put_wf _ _ (put_wf _ _ (extend_wf _ h))))

theorem Buffer.ofBytes_wf (bytes : List Byte) : (Buffer.ofBytes bytes).wf = true :=
  cellsOf_wf (by simp [Buffer.ofBytes])

/-- The buffer of a list of bytes holds them at their offsets. -/
theorem Buffer.read_ofBytes (bytes : List Byte) (a : Nat) :
    (Buffer.ofBytes bytes).read a = bytes[a]? := by
  unfold Buffer.read Buffer.ofBytes
  simp only
  split
  · rename_i h
    rw [byteAt_cellsOf (Nat.zero_le a)]
    simp [h]
  · rename_i h
    simp [h]

/-- Two lists in canonical form that hold the same bytes are equal. -/
theorem cells_ext {len : Nat} :
    ∀ {cs ds : List Host.Cell} {lo : Nat}, cellsWf lo len cs = true → cellsWf lo len ds = true →
      (∀ a, byteAt cs a = byteAt ds a) → cs = ds
  | [], [], _, _, _, _ => rfl
  | [], (a, v) :: rest, lo, _, hd, h => by
    simp only [cellsWf, Bool.and_eq_true] at hd
    have := h a
    simp only [byteAt, if_true] at this
    simp [← this] at hd
  | (a, v) :: rest, [], lo, hc, _, h => by
    simp only [cellsWf, Bool.and_eq_true] at hc
    have := h a
    simp only [byteAt, if_true] at this
    simp [this] at hc
  | (a, v) :: cs, (b, u) :: ds, lo, hc, hd, h => by
    simp only [cellsWf, Bool.and_eq_true, decide_eq_true_eq, bne_iff_ne] at hc hd
    obtain ⟨⟨⟨ha, _⟩, hv⟩, hcs⟩ := hc
    obtain ⟨⟨⟨hb, _⟩, hu⟩, hds⟩ := hd
    have hab : a = b := by
      rcases Nat.lt_trichotomy a b with hlt | heq | hgt
      · exfalso
        have h1 := h a
        have hne : ¬ b = a := by omega
        rw [byteAt, if_pos rfl, byteAt, if_neg hne, byteAt_below hds (by omega)] at h1
        exact hv h1
      · exact heq
      · exfalso
        have h1 := h b
        have hne : ¬ a = b := by omega
        rw [byteAt, if_neg hne, byteAt_below hcs (by omega), byteAt, if_pos rfl] at h1
        exact hu h1.symm
    subst hab
    have hvu : v = u := by
      have h1 := h a
      rwa [byteAt, if_pos rfl, byteAt, if_pos rfl] at h1
    subst hvu
    have hrest : cs = ds := by
      refine cells_ext hcs hds (fun k => ?_)
      by_cases hk : a = k
      · subst hk
        rw [byteAt_below hcs (by omega), byteAt_below hds (by omega)]
      · have h1 := h k
        rwa [byteAt, if_neg hk, byteAt, if_neg hk] at h1
    rw [hrest]

/-- Buffers in canonical form with the same length and the same bytes are equal. -/
theorem Buffer.ext_of_read {b c : Buffer} (hb : b.wf = true) (hc : c.wf = true)
    (hlen : b.len = c.len) (h : ∀ a, b.read a = c.read a) : b = c := by
  obtain ⟨n, cs⟩ := b
  obtain ⟨m, ds⟩ := c
  simp only at hlen
  subst hlen
  congr 1
  refine cells_ext hb hc (fun a => ?_)
  by_cases ha : a < n
  · have := h a
    simpa [Buffer.read, ha] using this
  · rw [show byteAt cs a = 0#8 from ?_, show byteAt ds a = 0#8 from ?_]
    · exact byteAt_above hc (Nat.not_lt.mp ha)
    · exact byteAt_above hb (Nat.not_lt.mp ha)
where
  byteAt_above {len : Nat} : ∀ {cs : List Host.Cell} {lo k : Nat}, cellsWf lo len cs = true →
      len ≤ k → byteAt cs k = 0#8
    | [], _, _, _, _ => rfl
    | (a, v) :: rest, lo, k, hw, hk => by
      simp only [cellsWf, Bool.and_eq_true, decide_eq_true_eq] at hw
      have hne : ¬ a = k := by omega
      simp only [byteAt, hne, if_false]
      exact byteAt_above hw.2 hk

/-! ## Reading several bytes -/

/-- `MemRead` of two bytes, byte by byte (20_memory.md R62). -/
theorem memRead_two (b : Buffer) (a : Nat) :
    memRead b a 2 = if a + 2 ≤ b.len then some [byteAt b.cells a, byteAt b.cells (a + 1)] else none := by
  by_cases h : a + 2 ≤ b.len
  · have h0 : a < b.len := by omega
    have h1 : a + 1 < b.len := by omega
    simp [memRead, Buffer.read, h, h0, h1]
  · by_cases h0 : a < b.len
    · have h1 : ¬ a + 1 < b.len := by omega
      simp [memRead, Buffer.read, h, h0, h1]
    · simp [memRead, Buffer.read, h, h0]

/-- `FETCH32` where the four bytes are readable (41_sync_and_length.md R182). -/
theorem fetch32_eq (b : Buffer) (a : Nat) :
    fetch32 b a =
      if a + 4 ≤ b.len then
        some (assemble (byteAt b.cells a) (byteAt b.cells (a + 1)) (byteAt b.cells (a + 2))
          (byteAt b.cells (a + 3)))
      else none := by
  by_cases h : a + 4 ≤ b.len
  · have h0 : a < b.len := by omega
    have h1 : a + 1 < b.len := by omega
    have h2 : a + 1 + 1 < b.len := by omega
    have h3 : a + 1 + 1 + 1 < b.len := by omega
    simp [fetch32, memRead, Buffer.read, h, h0, h1, h2, h3]
  · simp only [h, if_false]
    simp only [fetch32, memRead, Buffer.read]
    by_cases h0 : a < b.len <;> by_cases h1 : a + 1 < b.len <;> by_cases h2 : a + 1 + 1 < b.len <;>
      by_cases h3 : a + 1 + 1 + 1 < b.len <;> simp [h0, h1, h2, h3]
    omega

/-- `SYNC.B` where its two bytes are readable (41_sync_and_length.md R181). -/
theorem syncB_eq (b : Buffer) (a : Nat) :
    syncB b a =
      if a + 2 ≤ b.len then some (syncBytes (byteAt b.cells a) (byteAt b.cells (a + 1))) else none := by
  unfold syncB
  rw [memRead_two]
  by_cases h : a + 2 ≤ b.len <;> simp [h]

end Sys2Proof.Machine
end

