-- ==== Sys2Proof/Laws/Decode.lean ====
section
/-!
SUPPORT. The field extractions as arithmetic on the word, what they give on a word built from its
fields, and that a word with good sync is the word of its own fields.
-/

namespace Sys2Proof

/-! ## Fields as numbers (30_encoding.md R90) -/

theorem xSync_toNat (w : Word) : (xSync w).toNat = w.toNat / 2 ^ 21 % 2 ^ 11 := by
  simp [xSync, Nat.shiftRight_eq_div_pow]

theorem xVer_toNat (w : Word) : (xVer w).toNat = w.toNat / 2 ^ 19 % 2 ^ 2 := by
  simp [xVer, Nat.shiftRight_eq_div_pow]

theorem xLayer_toNat (w : Word) : (xLayer w).toNat = w.toNat / 2 ^ 17 % 2 ^ 2 := by
  simp [xLayer, Nat.shiftRight_eq_div_pow]

theorem xBridx_toNat (w : Word) : (xBridx w).toNat = w.toNat / 2 ^ 12 % 2 ^ 4 := by
  simp [xBridx, Nat.shiftRight_eq_div_pow]

theorem xSridx_toNat (w : Word) : (xSridx w).toNat = w.toNat / 2 ^ 10 % 2 ^ 2 := by
  simp [xSridx, Nat.shiftRight_eq_div_pow]

theorem xChmode_toNat (w : Word) : (xChmode w).toNat = w.toNat / 2 ^ 6 % 2 ^ 2 := by
  simp [xChmode, Nat.shiftRight_eq_div_pow]

theorem xModext_toNat (w : Word) : (xModext w).toNat = w.toNat / 2 ^ 4 % 2 ^ 2 := by
  simp [xModext, Nat.shiftRight_eq_div_pow]

theorem xEmph_toNat (w : Word) : (xEmph w).toNat = w.toNat % 2 ^ 2 := by
  simp [xEmph]

/-- One bit of a word as a number. -/
theorem getLsbD_toNat {n : Nat} (w : BitVec n) (i : Nat) :
    (w.getLsbD i).toNat = w.toNat / 2 ^ i % 2 := by
  rw [← BitVec.testBit_toNat, Nat.testBit_eq_decide_div_mod_eq]
  rcases Nat.mod_two_eq_zero_or_one (w.toNat / 2 ^ i) with h | h <;> simp [h]

theorem xProt_toNat (w : Word) : (xProt w).toNat = w.toNat / 2 ^ 16 % 2 := getLsbD_toNat w 16
theorem xPad_toNat (w : Word) : (xPad w).toNat = w.toNat / 2 ^ 9 % 2 := getLsbD_toNat w 9
theorem xPriv_toNat (w : Word) : (xPriv w).toNat = w.toNat / 2 ^ 8 % 2 := getLsbD_toNat w 8
theorem xCopy_toNat (w : Word) : (xCopy w).toNat = w.toNat / 2 ^ 3 % 2 := getLsbD_toNat w 3
theorem xOrig_toNat (w : Word) : (xOrig w).toNat = w.toNat / 2 ^ 2 % 2 := getLsbD_toNat w 2

/-- Booleans with the same number are the same. -/
theorem bool_eq_of_toNat {a b : Bool} (h : a.toNat = b.toNat) : a = b := by
  cases a <;> cases b <;> simp_all

/-! ## Words built from their fields (30_encoding.md R120) -/

/-- The number of a word written from well-formed arguments. -/
theorem HdrArgs.word_toNat {a : HdrArgs} (h : a.wellFormed = true) : a.word.toNat = a.wordNat := by
  simp only [HdrArgs.wellFormed, Bool.and_eq_true, decide_eq_true_eq] at h
  obtain ⟨⟨⟨⟨⟨⟨⟨⟨⟨⟨⟨h1, h2⟩, h3⟩, h4⟩, h5⟩, h6⟩, h7⟩, h8⟩, h9⟩, h10⟩, h11⟩, h12⟩ := h
  simp only [HdrArgs.word, BitVec.toNat_ofNat, HdrArgs.wordNat]
  omega

/-- Indices and operand bits always make well-formed arguments. -/
theorem hdrArgsOf_wellFormed (bri : BitVec 4) (sri : BitVec 2) (f : OperandBits) :
    (hdrArgsOf bri sri f).wellFormed = true := by
  simp only [HdrArgs.wellFormed, hdrArgsOf, Bool.and_eq_true]
  refine ⟨⟨⟨⟨⟨⟨⟨⟨⟨⟨⟨?_, ?_⟩, ?_⟩, ?_⟩, ?_⟩, ?_⟩, ?_⟩, ?_⟩, ?_⟩, ?_⟩, ?_⟩, ?_⟩ <;>
    first | exact decide_eq_true (BitVec.isLt _) | exact decide_eq_true (Bool.toNat_lt _)

section synced
variable (bri : BitVec 4) (sri : BitVec 2) (f : OperandBits)

/-- The number of a word with good sync, and the bounds of its parts. -/
theorem syncedWord_toNat :
    (syncedWord bri sri f).toNat = (hdrArgsOf bri sri f).wordNat :=
  HdrArgs.word_toNat (hdrArgsOf_wellFormed bri sri f)

/-- All thirteen fields of a word with good sync at once. -/
theorem syncedWord_fields :
    xSync (syncedWord bri sri f) = Config.syncValue ∧ xBridx (syncedWord bri sri f) = bri ∧
      xSridx (syncedWord bri sri f) = sri ∧ operandBitsOf (syncedWord bri sri f) = f := by
  obtain ⟨v, l, p, pad, priv, cm, mx, cp, og, em⟩ := f
  have hw := syncedWord_toNat bri sri ⟨v, l, p, pad, priv, cm, mx, cp, og, em⟩
  simp only [HdrArgs.wordNat, hdrArgsOf] at hw
  have h1 := v.isLt
  have h2 := l.isLt
  have h3 := p.toNat_lt
  have h4 := bri.isLt
  have h5 := sri.isLt
  have h6 := pad.toNat_lt
  have h7 := priv.toNat_lt
  have h8 := cm.isLt
  have h9 := mx.isLt
  have h10 := cp.toNat_lt
  have h11 := og.toNat_lt
  have h12 := em.isLt
  generalize syncedWord bri sri ⟨v, l, p, pad, priv, cm, mx, cp, og, em⟩ = w at hw ⊢
  refine ⟨BitVec.eq_of_toNat_eq ?_, BitVec.eq_of_toNat_eq ?_, BitVec.eq_of_toNat_eq ?_, ?_⟩
  · rw [xSync_toNat]; simp only [BitVec.toNat_ofNat]; omega
  · rw [xBridx_toNat]; omega
  · rw [xSridx_toNat]; omega
  · simp only [operandBitsOf, OperandBits.mk.injEq]
    refine ⟨BitVec.eq_of_toNat_eq ?_, BitVec.eq_of_toNat_eq ?_, bool_eq_of_toNat ?_,
      bool_eq_of_toNat ?_, bool_eq_of_toNat ?_, BitVec.eq_of_toNat_eq ?_, BitVec.eq_of_toNat_eq ?_,
      bool_eq_of_toNat ?_, bool_eq_of_toNat ?_, BitVec.eq_of_toNat_eq ?_⟩
    · rw [xVer_toNat]; omega
    · rw [xLayer_toNat]; omega
    · rw [xProt_toNat]; omega
    · rw [xPad_toNat]; omega
    · rw [xPriv_toNat]; omega
    · rw [xChmode_toNat]; omega
    · rw [xModext_toNat]; omega
    · rw [xCopy_toNat]; omega
    · rw [xOrig_toNat]; omega
    · rw [xEmph_toNat]; omega

@[simp] theorem xSync_syncedWord : xSync (syncedWord bri sri f) = Config.syncValue :=
  (syncedWord_fields bri sri f).1

@[simp] theorem xBridx_syncedWord : xBridx (syncedWord bri sri f) = bri :=
  (syncedWord_fields bri sri f).2.1

@[simp] theorem xSridx_syncedWord : xSridx (syncedWord bri sri f) = sri :=
  (syncedWord_fields bri sri f).2.2.1

@[simp] theorem operandBitsOf_syncedWord : operandBitsOf (syncedWord bri sri f) = f :=
  (syncedWord_fields bri sri f).2.2.2

/-- Decoding a word with good sync built from its fields. -/
@[simp] theorem decode_syncedWord : decode (syncedWord bri sri f) = decodeSynced bri sri f := by
  simp [decode]

end synced

/-- Splitting off the `n` bits from bit `i` on. -/
theorem div_split (x i n : Nat) : x / 2 ^ i = 2 ^ n * (x / 2 ^ (i + n)) + x / 2 ^ i % 2 ^ n := by
  rw [pow_add, ← Nat.div_div_eq_div_mul, Nat.div_add_mod]

/-- The thirteen fields of a number put together again (30_encoding.md R90). -/
theorem fields_sum (x : Nat) :
    x / 2 ^ 21 * 2 ^ 21 + x / 2 ^ 19 % 2 ^ 2 * 2 ^ 19 + x / 2 ^ 17 % 2 ^ 2 * 2 ^ 17 +
      x / 2 ^ 16 % 2 * 2 ^ 16 + x / 2 ^ 12 % 2 ^ 4 * 2 ^ 12 + x / 2 ^ 10 % 2 ^ 2 * 2 ^ 10 +
      x / 2 ^ 9 % 2 * 2 ^ 9 + x / 2 ^ 8 % 2 * 2 ^ 8 + x / 2 ^ 6 % 2 ^ 2 * 2 ^ 6 +
      x / 2 ^ 4 % 2 ^ 2 * 2 ^ 4 + x / 2 ^ 3 % 2 * 2 ^ 3 + x / 2 ^ 2 % 2 * 2 ^ 2 + x % 2 ^ 2 = x := by
  have h0 := div_split x 0 2
  have h2 := div_split x 2 1
  have h3 := div_split x 3 1
  have h4 := div_split x 4 2
  have h6 := div_split x 6 2
  have h8 := div_split x 8 1
  have h9 := div_split x 9 1
  have h10 := div_split x 10 2
  have h12 := div_split x 12 4
  have h16 := div_split x 16 1
  have h17 := div_split x 17 2
  have h19 := div_split x 19 2
  simp only [pow_zero, Nat.div_one, pow_one, Nat.zero_add, Nat.reduceAdd] at *
  generalize x / 2 ^ 21 = q21 at *
  generalize x / 2 ^ 19 % 2 ^ 2 = ver at *
  generalize x / 2 ^ 19 = q19 at *
  generalize x / 2 ^ 17 % 2 ^ 2 = lay at *
  generalize x / 2 ^ 17 = q17 at *
  generalize x / 2 ^ 16 % 2 = prot at *
  generalize x / 2 ^ 16 = q16 at *
  generalize x / 2 ^ 12 % 2 ^ 4 = bri at *
  generalize x / 2 ^ 12 = q12 at *
  generalize x / 2 ^ 10 % 2 ^ 2 = sri at *
  generalize x / 2 ^ 10 = q10 at *
  generalize x / 2 ^ 9 % 2 = pad at *
  generalize x / 2 ^ 9 = q9 at *
  generalize x / 2 ^ 8 % 2 = priv at *
  generalize x / 2 ^ 8 = q8 at *
  generalize x / 2 ^ 6 % 2 ^ 2 = cm at *
  generalize x / 2 ^ 6 = q6 at *
  generalize x / 2 ^ 4 % 2 ^ 2 = mx at *
  generalize x / 2 ^ 4 = q4 at *
  generalize x / 2 ^ 3 % 2 = cp at *
  generalize x / 2 ^ 3 = q3 at *
  generalize x / 2 ^ 2 % 2 = og at *
  generalize x / 2 ^ 2 = q2 at *
  generalize x % 2 ^ 2 = em at *
  omega

/-- A word with good sync is the word of its own fields (30_encoding.md R90: every bit belongs to
exactly one field). -/
theorem syncedWord_of_sync {w : Word} (h : xSync w = Config.syncValue) :
    syncedWord (xBridx w) (xSridx w) (operandBitsOf w) = w := by
  apply BitVec.eq_of_toNat_eq
  rw [syncedWord_toNat]
  have hs : w.toNat / 2 ^ 21 % 2 ^ 11 = 0x7FF := by
    rw [← xSync_toNat, h]; rfl
  have hq : w.toNat / 2 ^ 21 = 0x7FF := by
    have := w.isLt
    omega
  have hsum := fields_sum w.toNat
  rw [hq, show 0x7FF * 2 ^ 21 = 0xFFE00000 from rfl] at hsum
  simpa only [HdrArgs.wordNat, hdrArgsOf, operandBitsOf, xVer_toNat, xLayer_toNat, xBridx_toNat,
    xSridx_toNat, xChmode_toNat, xModext_toNat, xEmph_toNat, xProt_toNat, xPad_toNat, xPriv_toNat,
    xCopy_toNat, xOrig_toNat] using hsum

/-! ## Bytes (20_memory.md R63) -/

theorem assemble_toNat (b0 b1 b2 b3 : Byte) :
    (assemble b0 b1 b2 b3).toNat =
      b0.toNat * 2 ^ 24 + b1.toNat * 2 ^ 16 + b2.toNat * 2 ^ 8 + b3.toNat := by
  have h0 := b0.isLt
  have h1 := b1.isLt
  have h2 := b2.isLt
  have h3 := b3.isLt
  simp only [assemble, BitVec.toNat_ofNat]
  omega

/-- A word's bytes put together again are the word. -/
@[simp] theorem assemble_wordByte (w : Word) :
    assemble (wordByte w 0) (wordByte w 1) (wordByte w 2) (wordByte w 3) = w := by
  apply BitVec.eq_of_toNat_eq
  rw [assemble_toNat]
  simp only [wordByte, BitVec.toNat_ofNat]
  have := w.isLt
  omega

/-- The host's numbering of a word and the buffer's byte order agree (20_memory.md R63). -/
theorem decodeTableWord_eq (w : Word) : decodeTableWord 32 w.toNat = some (decode w) := by
  have : w.toNat % 2 ^ 32 = w.toNat := Nat.mod_eq_of_lt w.isLt
  simp only [decodeTableWord, wordBytes, decodeBytes, this, BitVec.ofNat_toNat, BitVec.setWidth_eq,
    assemble_wordByte]

end Sys2Proof
end

