-- ==== Sys2Proof/Laws/State.lean ====
section
/-!
SUPPORT. What each named update of the state does to each register, one lemma a field, so that no
later proof unfolds a record update.
-/

namespace Sys2Proof.Machine

/-! `State.resync` -/

@[simp] theorem State.resync_st (s : State) : s.resync.st = .searching := rfl
@[simp] theorem State.resync_cursor (s : State) : s.resync.cursor = s.hdrStart + 1 := rfl
@[simp] theorem State.resync_hdrStart (s : State) : s.resync.hdrStart = s.hdrStart := rfl
@[simp] theorem State.resync_hdrWord (s : State) : s.resync.hdrWord = s.hdrWord := rfl
@[simp] theorem State.resync_frameCount (s : State) : s.resync.frameCount = s.frameCount := rfl
@[simp] theorem State.resync_limitHit (s : State) : s.resync.limitHit = s.limitHit := rfl
@[simp] theorem State.resync_cfgStartOffset (s : State) : s.resync.cfgStartOffset = s.cfgStartOffset := rfl
@[simp] theorem State.resync_bufLen (s : State) : s.resync.bufLen = s.bufLen := rfl
@[simp] theorem State.resync_limitEn (s : State) : s.resync.limitEn = s.limitEn := rfl
@[simp] theorem State.resync_maxFrames (s : State) : s.resync.maxFrames = s.maxFrames := rfl
@[simp] theorem State.resync_outFrame (s : State) : s.resync.outFrame = s.outFrame := rfl
@[simp] theorem State.resync_buf (s : State) : s.resync.buf = s.buf := rfl
@[simp] theorem State.resync_loaded (s : State) : s.resync.loaded = s.loaded := rfl
@[simp] theorem State.resync_hostEvents (s : State) : s.resync.hostEvents = s.hostEvents := rfl

/-! `State.emit` -/

@[simp] theorem State.emit_st (s : State) (l : Nat) : (s.emit l).st = .frameEmitted := rfl
@[simp] theorem State.emit_cursor (s : State) (l : Nat) : (s.emit l).cursor = s.hdrStart + l := rfl
@[simp] theorem State.emit_hdrStart (s : State) (l : Nat) : (s.emit l).hdrStart = s.hdrStart := rfl
@[simp] theorem State.emit_hdrWord (s : State) (l : Nat) : (s.emit l).hdrWord = s.hdrWord := rfl
@[simp] theorem State.emit_frameCount (s : State) (l : Nat) : (s.emit l).frameCount = s.frameCount + 1 := rfl
@[simp] theorem State.emit_limitHit (s : State) (l : Nat) : (s.emit l).limitHit = s.limitHit := rfl
@[simp] theorem State.emit_cfgStartOffset (s : State) (l : Nat) : (s.emit l).cfgStartOffset = s.cfgStartOffset := rfl
@[simp] theorem State.emit_bufLen (s : State) (l : Nat) : (s.emit l).bufLen = s.bufLen := rfl
@[simp] theorem State.emit_limitEn (s : State) (l : Nat) : (s.emit l).limitEn = s.limitEn := rfl
@[simp] theorem State.emit_maxFrames (s : State) (l : Nat) : (s.emit l).maxFrames = s.maxFrames := rfl
@[simp] theorem State.emit_outFrame (s : State) (l : Nat) : (s.emit l).outFrame = ⟨s.hdrWord, s.hdrStart, BitVec.ofNat 11 l⟩ := rfl
@[simp] theorem State.emit_buf (s : State) (l : Nat) : (s.emit l).buf = s.buf := rfl
@[simp] theorem State.emit_loaded (s : State) (l : Nat) : (s.emit l).loaded = s.loaded := rfl
@[simp] theorem State.emit_hostEvents (s : State) (l : Nat) : (s.emit l).hostEvents = s.hostEvents := rfl

/-! `State.stopAtLimit` -/

@[simp] theorem State.stopAtLimit_st (s : State) : s.stopAtLimit.st = .exhausted := rfl
@[simp] theorem State.stopAtLimit_cursor (s : State) : s.stopAtLimit.cursor = s.cursor := rfl
@[simp] theorem State.stopAtLimit_hdrStart (s : State) : s.stopAtLimit.hdrStart = s.hdrStart := rfl
@[simp] theorem State.stopAtLimit_hdrWord (s : State) : s.stopAtLimit.hdrWord = s.hdrWord := rfl
@[simp] theorem State.stopAtLimit_frameCount (s : State) : s.stopAtLimit.frameCount = s.frameCount := rfl
@[simp] theorem State.stopAtLimit_limitHit (s : State) : s.stopAtLimit.limitHit = true := rfl
@[simp] theorem State.stopAtLimit_cfgStartOffset (s : State) : s.stopAtLimit.cfgStartOffset = s.cfgStartOffset := rfl
@[simp] theorem State.stopAtLimit_bufLen (s : State) : s.stopAtLimit.bufLen = s.bufLen := rfl
@[simp] theorem State.stopAtLimit_limitEn (s : State) : s.stopAtLimit.limitEn = s.limitEn := rfl
@[simp] theorem State.stopAtLimit_maxFrames (s : State) : s.stopAtLimit.maxFrames = s.maxFrames := rfl
@[simp] theorem State.stopAtLimit_outFrame (s : State) : s.stopAtLimit.outFrame = s.outFrame := rfl
@[simp] theorem State.stopAtLimit_buf (s : State) : s.stopAtLimit.buf = s.buf := rfl
@[simp] theorem State.stopAtLimit_loaded (s : State) : s.stopAtLimit.loaded = s.loaded := rfl
@[simp] theorem State.stopAtLimit_hostEvents (s : State) : s.stopAtLimit.hostEvents = s.hostEvents := rfl

/-! `State.stopAtEnd` -/

@[simp] theorem State.stopAtEnd_st (s : State) : s.stopAtEnd.st = .exhausted := rfl
@[simp] theorem State.stopAtEnd_cursor (s : State) : s.stopAtEnd.cursor = s.cursor := rfl
@[simp] theorem State.stopAtEnd_hdrStart (s : State) : s.stopAtEnd.hdrStart = s.hdrStart := rfl
@[simp] theorem State.stopAtEnd_hdrWord (s : State) : s.stopAtEnd.hdrWord = s.hdrWord := rfl
@[simp] theorem State.stopAtEnd_frameCount (s : State) : s.stopAtEnd.frameCount = s.frameCount := rfl
@[simp] theorem State.stopAtEnd_limitHit (s : State) : s.stopAtEnd.limitHit = s.limitHit := rfl
@[simp] theorem State.stopAtEnd_cfgStartOffset (s : State) : s.stopAtEnd.cfgStartOffset = s.cfgStartOffset := rfl
@[simp] theorem State.stopAtEnd_bufLen (s : State) : s.stopAtEnd.bufLen = s.bufLen := rfl
@[simp] theorem State.stopAtEnd_limitEn (s : State) : s.stopAtEnd.limitEn = s.limitEn := rfl
@[simp] theorem State.stopAtEnd_maxFrames (s : State) : s.stopAtEnd.maxFrames = s.maxFrames := rfl
@[simp] theorem State.stopAtEnd_outFrame (s : State) : s.stopAtEnd.outFrame = s.outFrame := rfl
@[simp] theorem State.stopAtEnd_buf (s : State) : s.stopAtEnd.buf = s.buf := rfl
@[simp] theorem State.stopAtEnd_loaded (s : State) : s.stopAtEnd.loaded = s.loaded := rfl
@[simp] theorem State.stopAtEnd_hostEvents (s : State) : s.stopAtEnd.hostEvents = s.hostEvents := rfl

/-! `State.found` -/

@[simp] theorem State.found_st (s : State) (w : Word) : (s.found w).st = .headerFound := rfl
@[simp] theorem State.found_cursor (s : State) (w : Word) : (s.found w).cursor = s.cursor := rfl
@[simp] theorem State.found_hdrStart (s : State) (w : Word) : (s.found w).hdrStart = s.cursor := rfl
@[simp] theorem State.found_hdrWord (s : State) (w : Word) : (s.found w).hdrWord = w := rfl
@[simp] theorem State.found_frameCount (s : State) (w : Word) : (s.found w).frameCount = s.frameCount := rfl
@[simp] theorem State.found_limitHit (s : State) (w : Word) : (s.found w).limitHit = s.limitHit := rfl
@[simp] theorem State.found_cfgStartOffset (s : State) (w : Word) : (s.found w).cfgStartOffset = s.cfgStartOffset := rfl
@[simp] theorem State.found_bufLen (s : State) (w : Word) : (s.found w).bufLen = s.bufLen := rfl
@[simp] theorem State.found_limitEn (s : State) (w : Word) : (s.found w).limitEn = s.limitEn := rfl
@[simp] theorem State.found_maxFrames (s : State) (w : Word) : (s.found w).maxFrames = s.maxFrames := rfl
@[simp] theorem State.found_outFrame (s : State) (w : Word) : (s.found w).outFrame = s.outFrame := rfl
@[simp] theorem State.found_buf (s : State) (w : Word) : (s.found w).buf = s.buf := rfl
@[simp] theorem State.found_loaded (s : State) (w : Word) : (s.found w).loaded = s.loaded := rfl
@[simp] theorem State.found_hostEvents (s : State) (w : Word) : (s.found w).hostEvents = s.hostEvents := rfl

/-! `State.advance` -/

@[simp] theorem State.advance_st (s : State) : s.advance.st = s.st := rfl
@[simp] theorem State.advance_cursor (s : State) : s.advance.cursor = s.cursor + 1 := rfl
@[simp] theorem State.advance_hdrStart (s : State) : s.advance.hdrStart = s.hdrStart := rfl
@[simp] theorem State.advance_hdrWord (s : State) : s.advance.hdrWord = s.hdrWord := rfl
@[simp] theorem State.advance_frameCount (s : State) : s.advance.frameCount = s.frameCount := rfl
@[simp] theorem State.advance_limitHit (s : State) : s.advance.limitHit = s.limitHit := rfl
@[simp] theorem State.advance_cfgStartOffset (s : State) : s.advance.cfgStartOffset = s.cfgStartOffset := rfl
@[simp] theorem State.advance_bufLen (s : State) : s.advance.bufLen = s.bufLen := rfl
@[simp] theorem State.advance_limitEn (s : State) : s.advance.limitEn = s.limitEn := rfl
@[simp] theorem State.advance_maxFrames (s : State) : s.advance.maxFrames = s.maxFrames := rfl
@[simp] theorem State.advance_outFrame (s : State) : s.advance.outFrame = s.outFrame := rfl
@[simp] theorem State.advance_buf (s : State) : s.advance.buf = s.buf := rfl
@[simp] theorem State.advance_loaded (s : State) : s.advance.loaded = s.loaded := rfl
@[simp] theorem State.advance_hostEvents (s : State) : s.advance.hostEvents = s.hostEvents := rfl

/-! `State.start` -/

@[simp] theorem State.start_st (s : State) (o : StartOperands) : (s.start o).st = .searching := rfl
@[simp] theorem State.start_cursor (s : State) (o : StartOperands) : (s.start o).cursor = o.startOffset := rfl
@[simp] theorem State.start_hdrStart (s : State) (o : StartOperands) : (s.start o).hdrStart = s.hdrStart := rfl
@[simp] theorem State.start_hdrWord (s : State) (o : StartOperands) : (s.start o).hdrWord = s.hdrWord := rfl
@[simp] theorem State.start_frameCount (s : State) (o : StartOperands) : (s.start o).frameCount = 0 := rfl
@[simp] theorem State.start_limitHit (s : State) (o : StartOperands) : (s.start o).limitHit = false := rfl
@[simp] theorem State.start_cfgStartOffset (s : State) (o : StartOperands) : (s.start o).cfgStartOffset = o.startOffset := rfl
@[simp] theorem State.start_bufLen (s : State) (o : StartOperands) : (s.start o).bufLen = o.bufLen := rfl
@[simp] theorem State.start_limitEn (s : State) (o : StartOperands) : (s.start o).limitEn = o.limitEn := rfl
@[simp] theorem State.start_maxFrames (s : State) (o : StartOperands) : (s.start o).maxFrames = o.maxFrames := rfl
@[simp] theorem State.start_outFrame (s : State) (o : StartOperands) : (s.start o).outFrame = s.outFrame := rfl
@[simp] theorem State.start_buf (s : State) (o : StartOperands) : (s.start o).buf = s.loaded := rfl
@[simp] theorem State.start_loaded (s : State) (o : StartOperands) : (s.start o).loaded = s.loaded := rfl
@[simp] theorem State.start_hostEvents (s : State) (o : StartOperands) : (s.start o).hostEvents = s.hostEvents := rfl

/-! `State.resetRegisters` -/

@[simp] theorem State.resetRegisters_st (s : State) : s.resetRegisters.st = .exhausted := rfl
@[simp] theorem State.resetRegisters_cursor (s : State) : s.resetRegisters.cursor = 0 := rfl
@[simp] theorem State.resetRegisters_hdrStart (s : State) : s.resetRegisters.hdrStart = 0 := rfl
@[simp] theorem State.resetRegisters_hdrWord (s : State) : s.resetRegisters.hdrWord = 0#32 := rfl
@[simp] theorem State.resetRegisters_frameCount (s : State) : s.resetRegisters.frameCount = 0 := rfl
@[simp] theorem State.resetRegisters_limitHit (s : State) : s.resetRegisters.limitHit = false := rfl
@[simp] theorem State.resetRegisters_cfgStartOffset (s : State) : s.resetRegisters.cfgStartOffset = 0 := rfl
@[simp] theorem State.resetRegisters_bufLen (s : State) : s.resetRegisters.bufLen = 0 := rfl
@[simp] theorem State.resetRegisters_limitEn (s : State) : s.resetRegisters.limitEn = false := rfl
@[simp] theorem State.resetRegisters_maxFrames (s : State) : s.resetRegisters.maxFrames = 0 := rfl
@[simp] theorem State.resetRegisters_outFrame (s : State) : s.resetRegisters.outFrame = ⟨0#32, 0, 0#11⟩ := rfl
@[simp] theorem State.resetRegisters_buf (s : State) : s.resetRegisters.buf = s.buf := rfl
@[simp] theorem State.resetRegisters_loaded (s : State) : s.resetRegisters.loaded = s.loaded := rfl
@[simp] theorem State.resetRegisters_hostEvents (s : State) : s.resetRegisters.hostEvents = s.hostEvents := rfl

/-! `State.pull` -/

@[simp] theorem State.pull_st_frameEmitted (s : State) (h : s.st = .frameEmitted) :
    s.pull = { s with st := .searching } := by
  simp [State.pull, h]

@[simp] theorem State.pull_other (s : State) (h : s.st ≠ .frameEmitted) : s.pull = s := by
  unfold State.pull
  cases hs : s.st <;> simp_all

@[simp] theorem State.pull_cursor (s : State) : s.pull.cursor = s.cursor := by
  unfold State.pull; split <;> rfl
@[simp] theorem State.pull_hdrStart (s : State) : s.pull.hdrStart = s.hdrStart := by
  unfold State.pull; split <;> rfl
@[simp] theorem State.pull_hdrWord (s : State) : s.pull.hdrWord = s.hdrWord := by
  unfold State.pull; split <;> rfl
@[simp] theorem State.pull_frameCount (s : State) : s.pull.frameCount = s.frameCount := by
  unfold State.pull; split <;> rfl
@[simp] theorem State.pull_limitHit (s : State) : s.pull.limitHit = s.limitHit := by
  unfold State.pull; split <;> rfl
@[simp] theorem State.pull_cfgStartOffset (s : State) : s.pull.cfgStartOffset = s.cfgStartOffset := by
  unfold State.pull; split <;> rfl
@[simp] theorem State.pull_bufLen (s : State) : s.pull.bufLen = s.bufLen := by
  unfold State.pull; split <;> rfl
@[simp] theorem State.pull_limitEn (s : State) : s.pull.limitEn = s.limitEn := by
  unfold State.pull; split <;> rfl
@[simp] theorem State.pull_maxFrames (s : State) : s.pull.maxFrames = s.maxFrames := by
  unfold State.pull; split <;> rfl
@[simp] theorem State.pull_outFrame (s : State) : s.pull.outFrame = s.outFrame := by
  unfold State.pull; split <;> rfl
@[simp] theorem State.pull_buf (s : State) : s.pull.buf = s.buf := by
  unfold State.pull; split <;> rfl
@[simp] theorem State.pull_loaded (s : State) : s.pull.loaded = s.loaded := by
  unfold State.pull; split <;> rfl
@[simp] theorem State.pull_hostEvents (s : State) : s.pull.hostEvents = s.hostEvents := by
  unfold State.pull; split <;> rfl

/-! `State.load` -/

@[simp] theorem State.load_st (s : State) (bytes : List Byte) :
    (s.load bytes).st = s.st := rfl
@[simp] theorem State.load_cursor (s : State) (bytes : List Byte) :
    (s.load bytes).cursor = s.cursor := rfl
@[simp] theorem State.load_hdrStart (s : State) (bytes : List Byte) :
    (s.load bytes).hdrStart = s.hdrStart := rfl
@[simp] theorem State.load_hdrWord (s : State) (bytes : List Byte) :
    (s.load bytes).hdrWord = s.hdrWord := rfl
@[simp] theorem State.load_frameCount (s : State) (bytes : List Byte) :
    (s.load bytes).frameCount = s.frameCount := rfl
@[simp] theorem State.load_limitHit (s : State) (bytes : List Byte) :
    (s.load bytes).limitHit = s.limitHit := rfl
@[simp] theorem State.load_cfgStartOffset (s : State) (bytes : List Byte) :
    (s.load bytes).cfgStartOffset = s.cfgStartOffset := rfl
@[simp] theorem State.load_bufLen (s : State) (bytes : List Byte) :
    (s.load bytes).bufLen = s.bufLen := rfl
@[simp] theorem State.load_limitEn (s : State) (bytes : List Byte) :
    (s.load bytes).limitEn = s.limitEn := rfl
@[simp] theorem State.load_maxFrames (s : State) (bytes : List Byte) :
    (s.load bytes).maxFrames = s.maxFrames := rfl
@[simp] theorem State.load_outFrame (s : State) (bytes : List Byte) :
    (s.load bytes).outFrame = s.outFrame := rfl
@[simp] theorem State.load_buf (s : State) (bytes : List Byte) :
    (s.load bytes).buf = s.buf := rfl
@[simp] theorem State.load_hostEvents (s : State) (bytes : List Byte) :
    (s.load bytes).hostEvents = s.hostEvents := rfl
@[simp] theorem State.load_loaded (s : State) (bytes : List Byte) :
    (s.load bytes).loaded = Buffer.ofBytes bytes := rfl

/-! `State.withFetchWord` -/

section withFetchWord
variable (s : State) (nbits w : Nat)

@[simp] theorem State.withFetchWord_st :
    (s.withFetchWord nbits w).st = .headerFound := rfl
@[simp] theorem State.withFetchWord_cursor :
    (s.withFetchWord nbits w).cursor = s.cursor := rfl
@[simp] theorem State.withFetchWord_hdrStart :
    (s.withFetchWord nbits w).hdrStart = s.cursor := rfl
@[simp] theorem State.withFetchWord_hdrWord :
    (s.withFetchWord nbits w).hdrWord = BitVec.ofNat 32 (w % 2 ^ nbits) := rfl
@[simp] theorem State.withFetchWord_frameCount :
    (s.withFetchWord nbits w).frameCount = s.frameCount := rfl
@[simp] theorem State.withFetchWord_limitHit :
    (s.withFetchWord nbits w).limitHit = s.limitHit := rfl
@[simp] theorem State.withFetchWord_cfgStartOffset :
    (s.withFetchWord nbits w).cfgStartOffset = s.cfgStartOffset := rfl
@[simp] theorem State.withFetchWord_bufLen :
    (s.withFetchWord nbits w).bufLen = max s.bufLen (s.cursor + 1441) := rfl
@[simp] theorem State.withFetchWord_limitEn :
    (s.withFetchWord nbits w).limitEn = s.limitEn := rfl
@[simp] theorem State.withFetchWord_maxFrames :
    (s.withFetchWord nbits w).maxFrames = s.maxFrames := rfl
@[simp] theorem State.withFetchWord_outFrame :
    (s.withFetchWord nbits w).outFrame = s.outFrame := rfl
@[simp] theorem State.withFetchWord_buf :
    (s.withFetchWord nbits w).buf = s.buf.putWord s.cursor (BitVec.ofNat 32 (w % 2 ^ nbits)) := rfl
@[simp] theorem State.withFetchWord_loaded :
    (s.withFetchWord nbits w).loaded = s.loaded := rfl
@[simp] theorem State.withFetchWord_hostEvents :
    (s.withFetchWord nbits w).hostEvents = [] := rfl

end withFetchWord

end Sys2Proof.Machine
end

