-- ==== Sys2Proof/Laws/Ops.lean ====
section
/-!
SUPPORT. What each shared operation can do, said once: `DECODE_LEN` by the fields of the word, the
lengths `FLEN` gives, the outcomes of a candidate, a Searching step, a step of SEQ and an event.
-/

namespace Sys2Proof.Machine

/-! ## HDEC and FLEN -/

/-- The sixteen bitrate indices. -/
theorem bitrateIndex_cases : ∀ i : BitVec 4, i = 0#4 ∨ i = 1#4 ∨ i = 2#4 ∨ i = 3#4 ∨ i = 4#4 ∨
    i = 5#4 ∨ i = 6#4 ∨ i = 7#4 ∨ i = 8#4 ∨ i = 9#4 ∨ i = 10#4 ∨ i = 11#4 ∨ i = 12#4 ∨
    i = 13#4 ∨ i = 14#4 ∨ i = 15#4 := by decide

/-- The four sample-rate indices. -/
theorem sampleRateIndex_cases : ∀ i : BitVec 2, i = 0#2 ∨ i = 1#2 ∨ i = 2#2 ∨ i = 3#2 := by decide

/-- `L.BITRATE` has a value at every index but 15 (40_header_decode.md R144). -/
theorem lookupBitrate_ok {idx : BitVec 4} (h : idx ≠ 15#4) :
    ∃ free kbps, lookupBitrate idx = .ok (free, kbps) ∧ (free = true ↔ idx = 0#4) := by
  rcases bitrateIndex_cases idx with rfl | rfl | rfl | rfl | rfl | rfl | rfl | rfl | rfl | rfl |
    rfl | rfl | rfl | rfl | rfl | rfl <;> first | exact ⟨_, _, rfl, by decide⟩ | exact absurd rfl h

/-- `L.SRATE` has one of three values at every index but 3 (40_header_decode.md R145). -/
theorem lookupSampleRate_ok {idx : BitVec 2} (h : idx ≠ 3#2) :
    ∃ hz, lookupSampleRate idx = .ok hz ∧ (hz = 44100#16 ∨ hz = 48000#16 ∨ hz = 32000#16) := by
  rcases sampleRateIndex_cases idx with rfl | rfl | rfl | rfl
  · exact ⟨_, rfl, .inl rfl⟩
  · exact ⟨_, rfl, .inr (.inl rfl)⟩
  · exact ⟨_, rfl, .inr (.inr rfl)⟩
  · exact absurd rfl h

/-- What `DECODE` answers, by the three fields that decide (40_header_decode.md R151, R152). -/
theorem decodeHeader_cases (w : Word) :
    (xSync w ≠ Config.syncValue ∧ decodeHeader w = .error .badSync) ∨
    (xSync w = Config.syncValue ∧ xBridx w = 15#4 ∧ decodeHeader w = .error .reservedBitrate) ∨
    (xSync w = Config.syncValue ∧ xBridx w ≠ 15#4 ∧ xSridx w = 3#2 ∧
      decodeHeader w = .error .reservedSampleRate) ∨
    (xSync w = Config.syncValue ∧ xBridx w ≠ 15#4 ∧ xSridx w ≠ 3#2 ∧
      ∃ h free kbps hz, decodeHeader w = .ok h ∧ lookupBitrate (xBridx w) = .ok (free, kbps) ∧
        lookupSampleRate (xSridx w) = .ok hz ∧ h.bitrateFree = free ∧ h.bitrateKbps = kbps ∧
        h.sampleRateHz = hz ∧ h.padding = xPad w) := by
  by_cases hs : xSync w = Config.syncValue
  · by_cases hb : xBridx w = 15#4
    · exact .inr (.inl ⟨hs, hb, by simp [decodeHeader, hs, hb]⟩)
    · by_cases hr : xSridx w = 3#2
      · exact .inr (.inr (.inl ⟨hs, hb, hr, by simp [decodeHeader, hs, hb, hr]⟩))
      · obtain ⟨free, kbps, hk, -⟩ := lookupBitrate_ok hb
        obtain ⟨hz, hh, -⟩ := lookupSampleRate_ok hr
        refine .inr (.inr (.inr ⟨hs, hb, hr, ?_⟩))
        simp [decodeHeader, hs, hb, hr, hk, hh]
  · exact .inl ⟨hs, by simp [decodeHeader, hs]⟩

/-- The lengths of the numeric bitrates at the three sample rates lie between 96 and 1440 before
padding (41_sync_and_length.md R186). -/
theorem tableLength_bounds {bri : BitVec 4} {sri : BitVec 2} {kbps : BitVec 9} {hz : BitVec 16}
    (hb : lookupBitrate bri = .ok (false, kbps)) (hs : lookupSampleRate sri = .ok hz) :
    96 ≤ 144000 * kbps.toNat / hz.toNat ∧ 144000 * kbps.toNat / hz.toNat ≤ 1440 := by
  rcases bitrateIndex_cases bri with rfl | rfl | rfl | rfl | rfl | rfl | rfl | rfl | rfl | rfl |
    rfl | rfl | rfl | rfl | rfl | rfl <;>
    first
      | (injection hb with hb; injection hb with hb; exact absurd hb (by decide))
      | (injection hb with hb; injection hb with hb hk; subst hk
         rcases sampleRateIndex_cases sri with rfl | rfl | rfl | rfl <;>
           first
             | (injection hs with hs; subst hs; decide)
             | simp [lookupSampleRate] at hs)
      | simp [lookupBitrate] at hb

/-- A header's length is 0 for free format and between 96 and 1441 else; `FLEN` never fails on one
(41_sync_and_length.md R186 to R188). -/
theorem flen_of_decodeHeader {w : Word} {h : FrameHeader} (hd : decodeHeader w = .ok h) :
    ∃ l, flen h = .ok l ∧ (h.bitrateFree = true → l = 0) ∧
      (h.bitrateFree = false → 96 ≤ l ∧ l ≤ 1441) := by
  rcases decodeHeader_cases w with ⟨_, he⟩ | ⟨_, _, he⟩ | ⟨_, _, _, he⟩ |
    ⟨_, _, hr, h', free, kbps, hz, he, hk, hh, rfl, rfl, rfl, hp⟩
  · simp [he] at hd
  · simp [he] at hd
  · simp [he] at hd
  · rw [hd] at he
    injection he with he
    subst he
    obtain ⟨hz', hh', hval⟩ := lookupSampleRate_ok hr
    rw [hh] at hh'
    injection hh' with hh'
    subst hh'
    have hz0 : h.sampleRateHz ≠ 0#16 := by rcases hval with h1 | h1 | h1 <;> rw [h1] <;> decide
    cases hf : h.bitrateFree with
    | true => exact ⟨0, by simp [flen, frameLength, hz0, hf], by simp, by simp⟩
    | false =>
      have hb := tableLength_bounds (hf ▸ hk) hh
      refine ⟨_, by simp only [flen, frameLength, hz0, if_false, hf]; rfl, by simp, fun _ => ?_⟩
      have := h.padding.toNat_lt
      simp only [Config.lenNumerator]
      omega

/-- `DECODE_LEN` of a word that decodes, and of one that does not. -/
theorem decodeLen_cases (w : Word) :
    (∃ k, decodeHeader w = .error k ∧ decodeLen w = .error k) ∨
    (∃ h l, decodeHeader w = .ok h ∧ flen h = .ok l ∧ decodeLen w = .ok (h, l) ∧
      (l = 0 ∨ 96 ≤ l ∧ l ≤ 1441)) := by
  cases hd : decodeHeader w with
  | error k => exact .inl ⟨k, rfl, by simp [decodeLen, hd]⟩
  | ok h =>
    obtain ⟨l, hl, hfree, hnum⟩ := flen_of_decodeHeader hd
    refine .inr ⟨h, l, rfl, hl, by simp [decodeLen, hd, hl], ?_⟩
    cases hf : h.bitrateFree with
    | true => exact .inl (hfree hf)
    | false => exact .inr (hnum hf)

/-- A length `DECODE_LEN` gives fits the 11 bits of `out_frame.length`. -/
theorem decodeLen_length_lt {w : Word} {h : FrameHeader} {l : Nat}
    (hd : decodeLen w = .ok (h, l)) : l < 2 ^ 11 := by
  rcases decodeLen_cases w with ⟨k, _, he⟩ | ⟨h', l', _, _, he, hl⟩
  · simp [he] at hd
  · rw [hd] at he
    injection he with he
    injection he with _ he
    omega

/-- The latched length is the length given, when it fits. -/
theorem ofNat_length {l : Nat} (h : l < 2 ^ 11) : (BitVec.ofNat 11 l).toNat = l := by
  simp only [BitVec.toNat_ofNat]
  exact Nat.mod_eq_of_lt h

/-! ## The outcomes of a candidate (43_sequencer.md R308) -/

/-- A candidate is rejected or emitted, and nothing else can happen to it. -/
theorem headerLength_cases (r : Except HeaderError Nat) (s : State) :
    headerLength r s = .next s.resync ∨
      ∃ l, r = .ok l ∧ l ≠ 0 ∧ s.hdrStart + l ≤ s.bufLen ∧ headerLength r s = .next (s.emit l) := by
  cases r with
  | error k => exact .inl rfl
  | ok l =>
    by_cases h : l = 0 ∨ s.hdrStart + l > s.bufLen
    · exact .inl (by simp [headerLength, headerDecoded, h])
    · rw [not_or] at h
      exact .inr ⟨l, rfl, h.1, by omega, by simp [headerLength, headerDecoded, h.1]; omega⟩

/-- `headerStep` in terms of `DECODE_LEN`'s length alone. -/
theorem headerStep_eq (s : State) :
    headerStep s = headerLength ((decodeLen s.hdrWord).map Prod.snd) s := by
  unfold headerStep headerLength
  cases decodeLen s.hdrWord with
  | error k => rfl
  | ok p => rfl

/-! ## SEQ -/

/-- What a Searching step answers (43_sequencer.md R300 to R304). -/
theorem searchStep_cases (s : State) :
    (s.limitReached = true ∧ searchStep s = .next s.stopAtLimit) ∨
    (s.limitReached = false ∧ s.bufLen < s.cursor + 4 ∧ searchStep s = .next s.stopAtEnd) ∨
    (s.limitReached = false ∧ s.cursor + 4 ≤ s.bufLen ∧ syncB s.buf s.cursor = some false ∧
      searchStep s = .next s.advance) ∨
    (s.limitReached = false ∧ s.cursor + 4 ≤ s.bufLen ∧ syncB s.buf s.cursor = some true ∧
      ∃ w, fetch32 s.buf s.cursor = some w ∧ searchStep s = .next (s.found w)) ∨
    (s.limitReached = false ∧ s.cursor + 4 ≤ s.bufLen ∧ s.buf.len < s.cursor + 4 ∧
      searchStep s = .fault .unreadableByte) := by
  cases hl : s.limitReached with
  | true => exact .inl ⟨rfl, by simp [searchStep, hl]⟩
  | false =>
    refine .inr ?_
    by_cases he : s.bufLen < s.cursor + 4
    · exact .inl ⟨rfl, he, by simp [searchStep, hl, he]⟩
    · have he' : s.cursor + 4 ≤ s.bufLen := by omega
      refine .inr ?_
      cases hs : syncB s.buf s.cursor with
      | none =>
        refine .inr (.inr ⟨rfl, he', ?_, by simp [searchStep, hl, he, hs]⟩)
        rw [syncB_eq] at hs
        split at hs
        · simp at hs
        · omega
      | some b =>
        cases b with
        | false => exact .inl ⟨rfl, he', rfl, by simp [searchStep, hl, he, hs]⟩
        | true =>
          refine .inr ?_
          cases hf : fetch32 s.buf s.cursor with
          | none =>
            refine .inr ⟨rfl, he', ?_, by simp [searchStep, hl, he, hs, hf]⟩
            rw [fetch32_eq] at hf
            split at hf
            · simp at hf
            · omega
          | some w => exact .inl ⟨rfl, he', rfl, w, rfl, by simp [searchStep, hl, he, hs, hf]⟩

/-! ## The host and runs -/

/-- A command answers a next state but for a Start beyond the loaded buffer (assumption 4). -/
theorem hostCommand_cases (c : HostCommand) (s : State) :
    (∃ o, c = .start o ∧ s.loaded.len < o.bufLen ∧ hostCommand c s = .fault .bufLenBeyondBuffer) ∨
    (∃ o, c = .start o ∧ o.bufLen ≤ s.loaded.len ∧ hostCommand c s = .next (s.start o)) ∨
    (c = .pull ∧ hostCommand c s = .next s.pull) ∨
    ((c = .reset ∨ ∃ o, c = .resetWithStart o) ∧ hostCommand c s = .next s.resetRegisters) := by
  cases c with
  | reset => exact .inr (.inr (.inr ⟨.inl rfl, rfl⟩))
  | pull => exact .inr (.inr (.inl ⟨rfl, rfl⟩))
  | resetWithStart o => exact .inr (.inr (.inr ⟨.inr ⟨o, rfl⟩, rfl⟩))
  | start o =>
    by_cases h : o.bufLen ≤ s.loaded.len
    · exact .inr (.inl ⟨o, rfl, h, by simp [hostCommand, startCommand, h]⟩)
    · exact .inl ⟨o, rfl, by omega, by simp [hostCommand, startCommand, h]⟩

/-- An event is a step of SEQ or what the host does (assumption 6). -/
theorem step_cases (s : State) :
    (s.hostEvents = [] ∧ step s = seqStep s) ∨
    (∃ rest, s.hostEvents = .idle :: rest ∧ step s = seqStep { s with hostEvents := rest }) ∨
    (∃ c rest, s.hostEvents = .command c :: rest ∧
      step s = hostCommand c { s with hostEvents := rest }) ∨
    (∃ bytes rest, s.hostEvents = .loadBuffer bytes :: rest ∧
      step s = .next (State.load { s with hostEvents := rest } bytes)) := by
  unfold step
  cases s.hostEvents with
  | nil => exact .inl ⟨rfl, rfl⟩
  | cons e rest =>
    cases e with
    | idle => exact .inr (.inl ⟨rest, rfl, rfl⟩)
    | command c => exact .inr (.inr (.inl ⟨c, rest, rfl, rfl⟩))
    | loadBuffer bytes => exact .inr (.inr (.inr ⟨bytes, rest, rfl, rfl⟩))

/-- A turn of the host's is its Pull. -/
theorem turn_pull (s : State) : turn true s = some (State.pull { s with hostEvents := [] }) := rfl

/-- Any other turn is SEQ's step, where it has a next state. -/
theorem turn_seq {s t : State} (h : seqStep { s with hostEvents := [] } = .next t) :
    turn false s = some t := by
  have : step { s with hostEvents := [.idle] } = .next t := h
  simp [turn, this]

/-- What a turn of SEQ's comes from. -/
theorem seqStep_of_turn {s t : State} (h : turn false s = some t) :
    seqStep { s with hostEvents := [] } = .next t := by
  have e : step { s with hostEvents := [.idle] } = seqStep { s with hostEvents := [] } := rfl
  revert h
  simp only [turn, Bool.false_eq_true, if_false, e]
  cases seqStep { s with hostEvents := [] } <;> simp

/-- A run is over in `Exhausted`. -/
theorem scanRun_exhausted (events : List Bool) {s : State} (h : s.st = .exhausted) :
    scanRun events s = ([], s) := by
  cases events <;> simp [scanRun, h]

/-- One event of a run. -/
theorem scanRun_cons {pull : Bool} {rest : List Bool} {s t : State} (h : s.st ≠ .exhausted)
    (ht : turn pull s = some t) :
    scanRun (pull :: rest) s = (presentedBy s t ++ (scanRun rest t).1, (scanRun rest t).2) := by
  simp [scanRun, h, ht]

/-- A run with every record pulled is over in `Exhausted`. -/
theorem pullRun_exhausted (k : Nat) {s : State} (h : s.st = .exhausted) :
    pullRun k s = ([], s) := by
  cases k <;> simp [pullRun, h]

/-- One event of a run with every record pulled. -/
theorem pullRun_succ {k : Nat} {s t : State} (h : s.st ≠ .exhausted)
    (ht : turn (s.st == .frameEmitted) s = some t) :
    pullRun (k + 1) s = (presentedBy s t ++ (pullRun k t).1, (pullRun k t).2) := by
  simp [pullRun, h, ht]

/-- A run with every record pulled is the run under some sequence of turns. -/
theorem pullRun_eq_scanRun (k : Nat) (s : State) : ∃ events, pullRun k s = scanRun events s := by
  induction k generalizing s with
  | zero => exact ⟨[], rfl⟩
  | succ k ih =>
    cases ht : turn (s.st == .frameEmitted) s with
    | none => exact ⟨[s.st == .frameEmitted], by simp [pullRun, scanRun, ht]⟩
    | some t =>
      obtain ⟨events, he⟩ := ih t
      exact ⟨(s.st == .frameEmitted) :: events, by simp [pullRun, scanRun, ht, he]⟩

end Sys2Proof.Machine
end

