-- ==== Sys2Proof/Laws/PerInstr.lean ====
section
/-!
SUPPORT. The statements made once for each constructor of `Instr`. `RowFits`: the word of a
well-formed instruction is selected by the match and mask of its row, as spec/opcode_table.json
prints them (30_encoding.md R110).
-/

namespace Sys2Proof.Laws

/-- What the mask of the rows with both indices keeps of a word with good sync. -/
theorem and_indexMask {w : Word} {b : BitVec 4} {r : BitVec 2} (hs : xSync w = Config.syncValue)
    (hb : xBridx w = b) (hr : xSridx w = r) :
    w &&& 0xFFE0FC00#32 = (Config.syncValue ++ 0#5 ++ b ++ r ++ 0#10 : BitVec 32) := by
  rw [← hs, ← hb, ← hr]
  apply BitVec.eq_of_getLsbD_eq
  intro i hi
  simp only [BitVec.getLsbD_and, BitVec.getLsbD_append, xSync, xBridx, xSridx,
    BitVec.getLsbD_extractLsb']
  interval_cases i <;> simp

/-- What the mask of the reserved bitrate row keeps of a word with good sync. -/
theorem and_bitrateMask {w : Word} {b : BitVec 4} (hs : xSync w = Config.syncValue)
    (hb : xBridx w = b) :
    w &&& 0xFFE0F000#32 = (Config.syncValue ++ 0#5 ++ b ++ 0#12 : BitVec 32) := by
  rw [← hs, ← hb]
  apply BitVec.eq_of_getLsbD_eq
  intro i hi
  simp only [BitVec.getLsbD_and, BitVec.getLsbD_append, xSync, xBridx, BitVec.getLsbD_extractLsb']
  interval_cases i <;> simp

/-- A mask of ones from bit `b` on clears the `b` low bits of a number. -/
theorem and_highMask {b hi rest : Nat} (hb : b ≤ 32) (hr : rest < 2 ^ b) :
    BitVec.ofNat 32 (2 ^ b * hi + rest) &&& BitVec.ofNat 32 (2 ^ b * (2 ^ (32 - b) - 1)) =
      BitVec.ofNat 32 (2 ^ b * hi) := by
  apply BitVec.eq_of_getLsbD_eq
  intro i hi'
  simp only [BitVec.getLsbD_and, BitVec.getLsbD_ofNat, hi', decide_true, Bool.true_and]
  rw [Nat.testBit_two_pow_mul_add _ hr, Nat.testBit_two_pow_mul, Nat.testBit_two_pow_mul,
    Nat.testBit_two_pow_sub_one]
  by_cases h : i < b
  · simp [h, Nat.not_le.mpr h]
  · have h1 : b ≤ i := Nat.not_lt.mp h
    have h2 : i - b < 32 - b := by omega
    simp [h, h1, h2]

/-- A word with good sync and both indices given is selected by the row with those indices. -/
theorem selects_synced {r : Row} (b : BitVec 4) (s : BitVec 2) (f : OperandBits)
    (hm : r.maskBits = 0xFFE0FC00#32)
    (h : r.matchBits = (Config.syncValue ++ 0#5 ++ b ++ s ++ 0#10 : BitVec 32)) :
    r.selects (syncedWord b s f) = true := by
  have key := and_indexMask (xSync_syncedWord b s f) (xBridx_syncedWord b s f)
    (xSridx_syncedWord b s f)
  simp only [Row.selects, hm, h, beq_iff_eq]
  exact key

/-- A BadSync word is selected by the row of its first zero bit. -/
theorem selects_badSync {r : Row} (b rest hi : Nat) (hb : b ≤ 32) (hr : rest < 2 ^ b)
    (hsum : 2 ^ 32 - 2 ^ (b + 1) = 2 ^ b * hi)
    (hm : r.maskBits = BitVec.ofNat 32 (2 ^ b * (2 ^ (32 - b) - 1)))
    (h : r.matchBits = BitVec.ofNat 32 (2 ^ b * hi)) :
    r.selects (BitVec.ofNat 32 (2 ^ 32 - 2 ^ (b + 1) + rest)) = true := by
  simp only [Row.selects, hm, h, beq_iff_eq, hsum]
  exact and_highMask hb hr

/-- The word of a well-formed `i` is in `i`'s row. -/
def RowFits.Statement (i : Instr) : Prop :=
  i.wellFormed = true → i.row.selects (encode i) = true

theorem RowFits.badsyncZ31 (rest : Nat) : RowFits.Statement (.badsyncZ31 rest) := fun h =>
  selects_badSync 31 rest 0 (by decide) (of_decide_eq_true h) rfl rfl rfl

theorem RowFits.badsyncZ30 (rest : Nat) : RowFits.Statement (.badsyncZ30 rest) := fun h =>
  selects_badSync 30 rest 2 (by decide) (of_decide_eq_true h) rfl rfl rfl

theorem RowFits.badsyncZ29 (rest : Nat) : RowFits.Statement (.badsyncZ29 rest) := fun h =>
  selects_badSync 29 rest 6 (by decide) (of_decide_eq_true h) rfl rfl rfl

theorem RowFits.badsyncZ28 (rest : Nat) : RowFits.Statement (.badsyncZ28 rest) := fun h =>
  selects_badSync 28 rest 14 (by decide) (of_decide_eq_true h) rfl rfl rfl

theorem RowFits.badsyncZ27 (rest : Nat) : RowFits.Statement (.badsyncZ27 rest) := fun h =>
  selects_badSync 27 rest 30 (by decide) (of_decide_eq_true h) rfl rfl rfl

theorem RowFits.badsyncZ26 (rest : Nat) : RowFits.Statement (.badsyncZ26 rest) := fun h =>
  selects_badSync 26 rest 62 (by decide) (of_decide_eq_true h) rfl rfl rfl

theorem RowFits.badsyncZ25 (rest : Nat) : RowFits.Statement (.badsyncZ25 rest) := fun h =>
  selects_badSync 25 rest 126 (by decide) (of_decide_eq_true h) rfl rfl rfl

theorem RowFits.badsyncZ24 (rest : Nat) : RowFits.Statement (.badsyncZ24 rest) := fun h =>
  selects_badSync 24 rest 254 (by decide) (of_decide_eq_true h) rfl rfl rfl

theorem RowFits.badsyncZ23 (rest : Nat) : RowFits.Statement (.badsyncZ23 rest) := fun h =>
  selects_badSync 23 rest 510 (by decide) (of_decide_eq_true h) rfl rfl rfl

theorem RowFits.badsyncZ22 (rest : Nat) : RowFits.Statement (.badsyncZ22 rest) := fun h =>
  selects_badSync 22 rest 1022 (by decide) (of_decide_eq_true h) rfl rfl rfl

theorem RowFits.badsyncZ21 (rest : Nat) : RowFits.Statement (.badsyncZ21 rest) := fun h =>
  selects_badSync 21 rest 2046 (by decide) (of_decide_eq_true h) rfl rfl rfl

theorem RowFits.rsvbr (sri : BitVec 2) (f : OperandBits) : RowFits.Statement (.rsvbr sri f) := by
  intro _
  have key := and_bitrateMask (xSync_syncedWord 15#4 sri f) (xBridx_syncedWord 15#4 sri f)
  simp only [Row.selects, Instr.row, encode, Instr.classFields, beq_iff_eq]
  exact key

theorem RowFits.rsvsrBr0 (f : OperandBits) : RowFits.Statement (.rsvsrBr0 f) := fun _ =>
  selects_synced 0#4 3#2 f rfl rfl

theorem RowFits.rsvsrBr1 (f : OperandBits) : RowFits.Statement (.rsvsrBr1 f) := fun _ =>
  selects_synced 1#4 3#2 f rfl rfl

theorem RowFits.rsvsrBr2 (f : OperandBits) : RowFits.Statement (.rsvsrBr2 f) := fun _ =>
  selects_synced 2#4 3#2 f rfl rfl

theorem RowFits.rsvsrBr3 (f : OperandBits) : RowFits.Statement (.rsvsrBr3 f) := fun _ =>
  selects_synced 3#4 3#2 f rfl rfl

theorem RowFits.rsvsrBr4 (f : OperandBits) : RowFits.Statement (.rsvsrBr4 f) := fun _ =>
  selects_synced 4#4 3#2 f rfl rfl

theorem RowFits.rsvsrBr5 (f : OperandBits) : RowFits.Statement (.rsvsrBr5 f) := fun _ =>
  selects_synced 5#4 3#2 f rfl rfl

theorem RowFits.rsvsrBr6 (f : OperandBits) : RowFits.Statement (.rsvsrBr6 f) := fun _ =>
  selects_synced 6#4 3#2 f rfl rfl

theorem RowFits.rsvsrBr7 (f : OperandBits) : RowFits.Statement (.rsvsrBr7 f) := fun _ =>
  selects_synced 7#4 3#2 f rfl rfl

theorem RowFits.rsvsrBr8 (f : OperandBits) : RowFits.Statement (.rsvsrBr8 f) := fun _ =>
  selects_synced 8#4 3#2 f rfl rfl

theorem RowFits.rsvsrBr9 (f : OperandBits) : RowFits.Statement (.rsvsrBr9 f) := fun _ =>
  selects_synced 9#4 3#2 f rfl rfl

theorem RowFits.rsvsrBr10 (f : OperandBits) : RowFits.Statement (.rsvsrBr10 f) := fun _ =>
  selects_synced 10#4 3#2 f rfl rfl

theorem RowFits.rsvsrBr11 (f : OperandBits) : RowFits.Statement (.rsvsrBr11 f) := fun _ =>
  selects_synced 11#4 3#2 f rfl rfl

theorem RowFits.rsvsrBr12 (f : OperandBits) : RowFits.Statement (.rsvsrBr12 f) := fun _ =>
  selects_synced 12#4 3#2 f rfl rfl

theorem RowFits.rsvsrBr13 (f : OperandBits) : RowFits.Statement (.rsvsrBr13 f) := fun _ =>
  selects_synced 13#4 3#2 f rfl rfl

theorem RowFits.rsvsrBr14 (f : OperandBits) : RowFits.Statement (.rsvsrBr14 f) := fun _ =>
  selects_synced 14#4 3#2 f rfl rfl

theorem RowFits.freeSr0 (f : OperandBits) : RowFits.Statement (.freeSr0 f) := fun _ =>
  selects_synced 0#4 0#2 f rfl rfl

theorem RowFits.freeSr1 (f : OperandBits) : RowFits.Statement (.freeSr1 f) := fun _ =>
  selects_synced 0#4 1#2 f rfl rfl

theorem RowFits.freeSr2 (f : OperandBits) : RowFits.Statement (.freeSr2 f) := fun _ =>
  selects_synced 0#4 2#2 f rfl rfl

theorem RowFits.br1Sr0 (f : OperandBits) : RowFits.Statement (.br1Sr0 f) := fun _ =>
  selects_synced 1#4 0#2 f rfl rfl

theorem RowFits.br1Sr1 (f : OperandBits) : RowFits.Statement (.br1Sr1 f) := fun _ =>
  selects_synced 1#4 1#2 f rfl rfl

theorem RowFits.br1Sr2 (f : OperandBits) : RowFits.Statement (.br1Sr2 f) := fun _ =>
  selects_synced 1#4 2#2 f rfl rfl

theorem RowFits.br2Sr0 (f : OperandBits) : RowFits.Statement (.br2Sr0 f) := fun _ =>
  selects_synced 2#4 0#2 f rfl rfl

theorem RowFits.br2Sr1 (f : OperandBits) : RowFits.Statement (.br2Sr1 f) := fun _ =>
  selects_synced 2#4 1#2 f rfl rfl

theorem RowFits.br2Sr2 (f : OperandBits) : RowFits.Statement (.br2Sr2 f) := fun _ =>
  selects_synced 2#4 2#2 f rfl rfl

theorem RowFits.br3Sr0 (f : OperandBits) : RowFits.Statement (.br3Sr0 f) := fun _ =>
  selects_synced 3#4 0#2 f rfl rfl

theorem RowFits.br3Sr1 (f : OperandBits) : RowFits.Statement (.br3Sr1 f) := fun _ =>
  selects_synced 3#4 1#2 f rfl rfl

theorem RowFits.br3Sr2 (f : OperandBits) : RowFits.Statement (.br3Sr2 f) := fun _ =>
  selects_synced 3#4 2#2 f rfl rfl

theorem RowFits.br4Sr0 (f : OperandBits) : RowFits.Statement (.br4Sr0 f) := fun _ =>
  selects_synced 4#4 0#2 f rfl rfl

theorem RowFits.br4Sr1 (f : OperandBits) : RowFits.Statement (.br4Sr1 f) := fun _ =>
  selects_synced 4#4 1#2 f rfl rfl

theorem RowFits.br4Sr2 (f : OperandBits) : RowFits.Statement (.br4Sr2 f) := fun _ =>
  selects_synced 4#4 2#2 f rfl rfl

theorem RowFits.br5Sr0 (f : OperandBits) : RowFits.Statement (.br5Sr0 f) := fun _ =>
  selects_synced 5#4 0#2 f rfl rfl

theorem RowFits.br5Sr1 (f : OperandBits) : RowFits.Statement (.br5Sr1 f) := fun _ =>
  selects_synced 5#4 1#2 f rfl rfl

theorem RowFits.br5Sr2 (f : OperandBits) : RowFits.Statement (.br5Sr2 f) := fun _ =>
  selects_synced 5#4 2#2 f rfl rfl

theorem RowFits.br6Sr0 (f : OperandBits) : RowFits.Statement (.br6Sr0 f) := fun _ =>
  selects_synced 6#4 0#2 f rfl rfl

theorem RowFits.br6Sr1 (f : OperandBits) : RowFits.Statement (.br6Sr1 f) := fun _ =>
  selects_synced 6#4 1#2 f rfl rfl

theorem RowFits.br6Sr2 (f : OperandBits) : RowFits.Statement (.br6Sr2 f) := fun _ =>
  selects_synced 6#4 2#2 f rfl rfl

theorem RowFits.br7Sr0 (f : OperandBits) : RowFits.Statement (.br7Sr0 f) := fun _ =>
  selects_synced 7#4 0#2 f rfl rfl

theorem RowFits.br7Sr1 (f : OperandBits) : RowFits.Statement (.br7Sr1 f) := fun _ =>
  selects_synced 7#4 1#2 f rfl rfl

theorem RowFits.br7Sr2 (f : OperandBits) : RowFits.Statement (.br7Sr2 f) := fun _ =>
  selects_synced 7#4 2#2 f rfl rfl

theorem RowFits.br8Sr0 (f : OperandBits) : RowFits.Statement (.br8Sr0 f) := fun _ =>
  selects_synced 8#4 0#2 f rfl rfl

theorem RowFits.br8Sr1 (f : OperandBits) : RowFits.Statement (.br8Sr1 f) := fun _ =>
  selects_synced 8#4 1#2 f rfl rfl

theorem RowFits.br8Sr2 (f : OperandBits) : RowFits.Statement (.br8Sr2 f) := fun _ =>
  selects_synced 8#4 2#2 f rfl rfl

theorem RowFits.br9Sr0 (f : OperandBits) : RowFits.Statement (.br9Sr0 f) := fun _ =>
  selects_synced 9#4 0#2 f rfl rfl

theorem RowFits.br9Sr1 (f : OperandBits) : RowFits.Statement (.br9Sr1 f) := fun _ =>
  selects_synced 9#4 1#2 f rfl rfl

theorem RowFits.br9Sr2 (f : OperandBits) : RowFits.Statement (.br9Sr2 f) := fun _ =>
  selects_synced 9#4 2#2 f rfl rfl

theorem RowFits.br10Sr0 (f : OperandBits) : RowFits.Statement (.br10Sr0 f) := fun _ =>
  selects_synced 10#4 0#2 f rfl rfl

theorem RowFits.br10Sr1 (f : OperandBits) : RowFits.Statement (.br10Sr1 f) := fun _ =>
  selects_synced 10#4 1#2 f rfl rfl

theorem RowFits.br10Sr2 (f : OperandBits) : RowFits.Statement (.br10Sr2 f) := fun _ =>
  selects_synced 10#4 2#2 f rfl rfl

theorem RowFits.br11Sr0 (f : OperandBits) : RowFits.Statement (.br11Sr0 f) := fun _ =>
  selects_synced 11#4 0#2 f rfl rfl

theorem RowFits.br11Sr1 (f : OperandBits) : RowFits.Statement (.br11Sr1 f) := fun _ =>
  selects_synced 11#4 1#2 f rfl rfl

theorem RowFits.br11Sr2 (f : OperandBits) : RowFits.Statement (.br11Sr2 f) := fun _ =>
  selects_synced 11#4 2#2 f rfl rfl

theorem RowFits.br12Sr0 (f : OperandBits) : RowFits.Statement (.br12Sr0 f) := fun _ =>
  selects_synced 12#4 0#2 f rfl rfl

theorem RowFits.br12Sr1 (f : OperandBits) : RowFits.Statement (.br12Sr1 f) := fun _ =>
  selects_synced 12#4 1#2 f rfl rfl

theorem RowFits.br12Sr2 (f : OperandBits) : RowFits.Statement (.br12Sr2 f) := fun _ =>
  selects_synced 12#4 2#2 f rfl rfl

theorem RowFits.br13Sr0 (f : OperandBits) : RowFits.Statement (.br13Sr0 f) := fun _ =>
  selects_synced 13#4 0#2 f rfl rfl

theorem RowFits.br13Sr1 (f : OperandBits) : RowFits.Statement (.br13Sr1 f) := fun _ =>
  selects_synced 13#4 1#2 f rfl rfl

theorem RowFits.br13Sr2 (f : OperandBits) : RowFits.Statement (.br13Sr2 f) := fun _ =>
  selects_synced 13#4 2#2 f rfl rfl

theorem RowFits.br14Sr0 (f : OperandBits) : RowFits.Statement (.br14Sr0 f) := fun _ =>
  selects_synced 14#4 0#2 f rfl rfl

theorem RowFits.br14Sr1 (f : OperandBits) : RowFits.Statement (.br14Sr1 f) := fun _ =>
  selects_synced 14#4 1#2 f rfl rfl

theorem RowFits.br14Sr2 (f : OperandBits) : RowFits.Statement (.br14Sr2 f) := fun _ =>
  selects_synced 14#4 2#2 f rfl rfl

end Sys2Proof.Laws
end

