-- ==== Sys2Proof/Tests/Slice0.lean ====
section
/-!
SUPPORT. The model's own tests. Expected results are from spec/95_test_vectors.md and from words
written out by hand from 30_encoding.md R90; each theorem names its source. At the end, one witness
for each statement of Certificates/Slice0/Obligations.lean that has hypotheses: concrete values that
meet them together, a boundary value for each clause.
-/

set_option maxRecDepth 8000

namespace Sys2Proof.Tests

open Sys2Proof.Machine Sys2Proof.Claims

/-! ## Builders -/

/-- Operand bits all 0. -/
def zeros : OperandBits := ⟨0#2, 0#2, false, false, false, 0#2, 0#2, false, false, 0#2⟩

/-- Operand bits all 1. -/
def ones : OperandBits := ⟨3#2, 3#2, true, true, true, 3#2, 3#2, true, true, 3#2⟩

/-- A Searching state at `cursor` over a buffer of `bytes`, `buf_len` being their number. -/
def searchingAt (cursor : Nat) (bytes : List Byte) : State :=
  { State.reset with
    st := .searching, cursor := cursor, bufLen := bytes.length, buf := Buffer.ofBytes bytes,
    loaded := Buffer.ofBytes bytes }

/-- A Searching state at `cursor` over a buffer of `n` bytes 0. -/
def searchingZeros (cursor n : Nat) : State :=
  { State.reset with
    st := .searching, cursor := cursor, bufLen := n, buf := ⟨n, []⟩, loaded := ⟨n, []⟩ }

/-- A HeaderFound state with the candidate `w` at `start` and `buf_len` `n`. -/
def candidate (start : Nat) (w : Word) (n : Nat) : State :=
  { State.reset with
    st := .headerFound, cursor := start, hdrStart := start, hdrWord := w, bufLen := n,
    buf := Buffer.putWord ⟨n, []⟩ start w, loaded := Buffer.putWord ⟨n, []⟩ start w }

/-- A FrameEmitted state presenting the record of `95_test_vectors.md` S18. -/
def presenting : State :=
  { candidate 10 0xFFFB1400#32 106 with
    st := .frameEmitted, cursor := 106, frameCount := 1, outFrame := ⟨0xFFFB1400#32, 10, 96#11⟩ }

/-- The next state of an outcome. -/
def nextOf : Result → Option State
  | .next t => some t
  | .fault _ => none
  | .refused _ => none

/-- The fault of an outcome. -/
def faultOf : Result → Option Fault
  | .next _ => none
  | .fault r => some r
  | .refused _ => none

/-! ## WellFormed -/

/-- The largest rest of each BadSync row is well-formed (30_encoding.md R111). -/
theorem test_wellFormed_badsync_largest :
    [
      Instr.badsyncZ31 2147483647,
      Instr.badsyncZ30 1073741823,
      Instr.badsyncZ29 536870911,
      Instr.badsyncZ28 268435455,
      Instr.badsyncZ27 134217727,
      Instr.badsyncZ26 67108863,
      Instr.badsyncZ25 33554431,
      Instr.badsyncZ24 16777215,
      Instr.badsyncZ23 8388607,
      Instr.badsyncZ22 4194303,
      Instr.badsyncZ21 2097151 ].all Instr.wellFormed = true := by
  decide

theorem test_illFormed_badsyncZ31 : (Instr.badsyncZ31 2147483648).wellFormed = false := by decide
theorem test_illFormed_badsyncZ30 : (Instr.badsyncZ30 1073741824).wellFormed = false := by decide
theorem test_illFormed_badsyncZ29 : (Instr.badsyncZ29 536870912).wellFormed = false := by decide
theorem test_illFormed_badsyncZ28 : (Instr.badsyncZ28 268435456).wellFormed = false := by decide
theorem test_illFormed_badsyncZ27 : (Instr.badsyncZ27 134217728).wellFormed = false := by decide
theorem test_illFormed_badsyncZ26 : (Instr.badsyncZ26 67108864).wellFormed = false := by decide
theorem test_illFormed_badsyncZ25 : (Instr.badsyncZ25 33554432).wellFormed = false := by decide
theorem test_illFormed_badsyncZ24 : (Instr.badsyncZ24 16777216).wellFormed = false := by decide
theorem test_illFormed_badsyncZ23 : (Instr.badsyncZ23 8388608).wellFormed = false := by decide
theorem test_illFormed_badsyncZ22 : (Instr.badsyncZ22 4194304).wellFormed = false := by decide
theorem test_illFormed_badsyncZ21 : (Instr.badsyncZ21 2097152).wellFormed = false := by decide

/-- A row with operand bits has nothing to check. -/
theorem test_wellFormed_synced :
    [Instr.rsvbr 3#2 ones, .rsvsrBr14 ones, .freeSr2 ones, .br14Sr2 ones].all
      Instr.wellFormed = true := by decide

/-- Every argument of `HDR(...)` at its largest (30_encoding.md R120). -/
theorem test_wellFormed_hdrArgs_largest :
    HdrArgs.wellFormed ⟨3, 3, 1, 15, 3, 1, 1, 3, 3, 1, 1, 3⟩ = true := by decide

theorem test_illFormed_hdrArgs_ver :
    HdrArgs.wellFormed { ver := 4, lay := 0 } = false := by decide
theorem test_illFormed_hdrArgs_lay :
    HdrArgs.wellFormed { lay := 4, ver := 0 } = false := by decide
theorem test_illFormed_hdrArgs_prot :
    HdrArgs.wellFormed { ver := 0, lay := 0, prot := 2 } = false := by decide
theorem test_illFormed_hdrArgs_br :
    HdrArgs.wellFormed { ver := 0, lay := 0, br := 16 } = false := by decide
theorem test_illFormed_hdrArgs_sr :
    HdrArgs.wellFormed { ver := 0, lay := 0, sr := 4 } = false := by decide
theorem test_illFormed_hdrArgs_pad :
    HdrArgs.wellFormed { ver := 0, lay := 0, pad := 2 } = false := by decide
theorem test_illFormed_hdrArgs_priv :
    HdrArgs.wellFormed { ver := 0, lay := 0, priv := 2 } = false := by decide
theorem test_illFormed_hdrArgs_cm :
    HdrArgs.wellFormed { ver := 0, lay := 0, cm := 4 } = false := by decide
theorem test_illFormed_hdrArgs_mx :
    HdrArgs.wellFormed { ver := 0, lay := 0, mx := 4 } = false := by decide
theorem test_illFormed_hdrArgs_copy :
    HdrArgs.wellFormed { ver := 0, lay := 0, copy := 2 } = false := by decide
theorem test_illFormed_hdrArgs_orig :
    HdrArgs.wellFormed { ver := 0, lay := 0, orig := 2 } = false := by decide
theorem test_illFormed_hdrArgs_emph :
    HdrArgs.wellFormed { ver := 0, lay := 0, emph := 4 } = false := by decide

/-! ## Decoding: both ends of every row (95_test_vectors.md, section 6) -/

theorem test_decode_badsync_smallest :
    decode 0x00000000#32 = .badsyncZ31 0 ∧
    decode 0x80000000#32 = .badsyncZ30 0 ∧
    decode 0xC0000000#32 = .badsyncZ29 0 ∧
    decode 0xE0000000#32 = .badsyncZ28 0 ∧
    decode 0xF0000000#32 = .badsyncZ27 0 ∧
    decode 0xF8000000#32 = .badsyncZ26 0 ∧
    decode 0xFC000000#32 = .badsyncZ25 0 ∧
    decode 0xFE000000#32 = .badsyncZ24 0 ∧
    decode 0xFF000000#32 = .badsyncZ23 0 ∧
    decode 0xFF800000#32 = .badsyncZ22 0 ∧
    decode 0xFFC00000#32 = .badsyncZ21 0 := by
  decide

theorem test_decode_badsync_largest :
    decode 0x7FFFFFFF#32 = .badsyncZ31 2147483647 ∧
    decode 0xBFFFFFFF#32 = .badsyncZ30 1073741823 ∧
    decode 0xDFFFFFFF#32 = .badsyncZ29 536870911 ∧
    decode 0xEFFFFFFF#32 = .badsyncZ28 268435455 ∧
    decode 0xF7FFFFFF#32 = .badsyncZ27 134217727 ∧
    decode 0xFBFFFFFF#32 = .badsyncZ26 67108863 ∧
    decode 0xFDFFFFFF#32 = .badsyncZ25 33554431 ∧
    decode 0xFEFFFFFF#32 = .badsyncZ24 16777215 ∧
    decode 0xFF7FFFFF#32 = .badsyncZ23 8388607 ∧
    decode 0xFFBFFFFF#32 = .badsyncZ22 4194303 ∧
    decode 0xFFDFFFFF#32 = .badsyncZ21 2097151 := by
  decide

theorem test_decode_rsvbr_smallest :
    decode 0xFFE0F000#32 = .rsvbr 0#2 zeros := by
  decide

theorem test_decode_rsvbr_largest :
    decode 0xFFFFFFFF#32 = .rsvbr 3#2 ones := by
  decide

theorem test_decode_rsvsr_smallest :
    decode 0xFFE00C00#32 = .rsvsrBr0 zeros ∧
    decode 0xFFE01C00#32 = .rsvsrBr1 zeros ∧
    decode 0xFFE02C00#32 = .rsvsrBr2 zeros ∧
    decode 0xFFE03C00#32 = .rsvsrBr3 zeros ∧
    decode 0xFFE04C00#32 = .rsvsrBr4 zeros ∧
    decode 0xFFE05C00#32 = .rsvsrBr5 zeros ∧
    decode 0xFFE06C00#32 = .rsvsrBr6 zeros ∧
    decode 0xFFE07C00#32 = .rsvsrBr7 zeros ∧
    decode 0xFFE08C00#32 = .rsvsrBr8 zeros ∧
    decode 0xFFE09C00#32 = .rsvsrBr9 zeros ∧
    decode 0xFFE0AC00#32 = .rsvsrBr10 zeros ∧
    decode 0xFFE0BC00#32 = .rsvsrBr11 zeros ∧
    decode 0xFFE0CC00#32 = .rsvsrBr12 zeros ∧
    decode 0xFFE0DC00#32 = .rsvsrBr13 zeros ∧
    decode 0xFFE0EC00#32 = .rsvsrBr14 zeros := by
  decide

theorem test_decode_rsvsr_largest :
    decode 0xFFFF0FFF#32 = .rsvsrBr0 ones ∧
    decode 0xFFFF1FFF#32 = .rsvsrBr1 ones ∧
    decode 0xFFFF2FFF#32 = .rsvsrBr2 ones ∧
    decode 0xFFFF3FFF#32 = .rsvsrBr3 ones ∧
    decode 0xFFFF4FFF#32 = .rsvsrBr4 ones ∧
    decode 0xFFFF5FFF#32 = .rsvsrBr5 ones ∧
    decode 0xFFFF6FFF#32 = .rsvsrBr6 ones ∧
    decode 0xFFFF7FFF#32 = .rsvsrBr7 ones ∧
    decode 0xFFFF8FFF#32 = .rsvsrBr8 ones ∧
    decode 0xFFFF9FFF#32 = .rsvsrBr9 ones ∧
    decode 0xFFFFAFFF#32 = .rsvsrBr10 ones ∧
    decode 0xFFFFBFFF#32 = .rsvsrBr11 ones ∧
    decode 0xFFFFCFFF#32 = .rsvsrBr12 ones ∧
    decode 0xFFFFDFFF#32 = .rsvsrBr13 ones ∧
    decode 0xFFFFEFFF#32 = .rsvsrBr14 ones := by
  decide

theorem test_decode_free_smallest :
    decode 0xFFE00000#32 = .freeSr0 zeros ∧
    decode 0xFFE00400#32 = .freeSr1 zeros ∧
    decode 0xFFE00800#32 = .freeSr2 zeros := by
  decide

theorem test_decode_free_largest :
    decode 0xFFFF03FF#32 = .freeSr0 ones ∧
    decode 0xFFFF07FF#32 = .freeSr1 ones ∧
    decode 0xFFFF0BFF#32 = .freeSr2 ones := by
  decide

theorem test_decode_br1to4_smallest :
    decode 0xFFE01000#32 = .br1Sr0 zeros ∧
    decode 0xFFE01400#32 = .br1Sr1 zeros ∧
    decode 0xFFE01800#32 = .br1Sr2 zeros ∧
    decode 0xFFE02000#32 = .br2Sr0 zeros ∧
    decode 0xFFE02400#32 = .br2Sr1 zeros ∧
    decode 0xFFE02800#32 = .br2Sr2 zeros ∧
    decode 0xFFE03000#32 = .br3Sr0 zeros ∧
    decode 0xFFE03400#32 = .br3Sr1 zeros ∧
    decode 0xFFE03800#32 = .br3Sr2 zeros ∧
    decode 0xFFE04000#32 = .br4Sr0 zeros ∧
    decode 0xFFE04400#32 = .br4Sr1 zeros ∧
    decode 0xFFE04800#32 = .br4Sr2 zeros := by
  decide

theorem test_decode_br1to4_largest :
    decode 0xFFFF13FF#32 = .br1Sr0 ones ∧
    decode 0xFFFF17FF#32 = .br1Sr1 ones ∧
    decode 0xFFFF1BFF#32 = .br1Sr2 ones ∧
    decode 0xFFFF23FF#32 = .br2Sr0 ones ∧
    decode 0xFFFF27FF#32 = .br2Sr1 ones ∧
    decode 0xFFFF2BFF#32 = .br2Sr2 ones ∧
    decode 0xFFFF33FF#32 = .br3Sr0 ones ∧
    decode 0xFFFF37FF#32 = .br3Sr1 ones ∧
    decode 0xFFFF3BFF#32 = .br3Sr2 ones ∧
    decode 0xFFFF43FF#32 = .br4Sr0 ones ∧
    decode 0xFFFF47FF#32 = .br4Sr1 ones ∧
    decode 0xFFFF4BFF#32 = .br4Sr2 ones := by
  decide

theorem test_decode_br5to8_smallest :
    decode 0xFFE05000#32 = .br5Sr0 zeros ∧
    decode 0xFFE05400#32 = .br5Sr1 zeros ∧
    decode 0xFFE05800#32 = .br5Sr2 zeros ∧
    decode 0xFFE06000#32 = .br6Sr0 zeros ∧
    decode 0xFFE06400#32 = .br6Sr1 zeros ∧
    decode 0xFFE06800#32 = .br6Sr2 zeros ∧
    decode 0xFFE07000#32 = .br7Sr0 zeros ∧
    decode 0xFFE07400#32 = .br7Sr1 zeros ∧
    decode 0xFFE07800#32 = .br7Sr2 zeros ∧
    decode 0xFFE08000#32 = .br8Sr0 zeros ∧
    decode 0xFFE08400#32 = .br8Sr1 zeros ∧
    decode 0xFFE08800#32 = .br8Sr2 zeros := by
  decide

theorem test_decode_br5to8_largest :
    decode 0xFFFF53FF#32 = .br5Sr0 ones ∧
    decode 0xFFFF57FF#32 = .br5Sr1 ones ∧
    decode 0xFFFF5BFF#32 = .br5Sr2 ones ∧
    decode 0xFFFF63FF#32 = .br6Sr0 ones ∧
    decode 0xFFFF67FF#32 = .br6Sr1 ones ∧
    decode 0xFFFF6BFF#32 = .br6Sr2 ones ∧
    decode 0xFFFF73FF#32 = .br7Sr0 ones ∧
    decode 0xFFFF77FF#32 = .br7Sr1 ones ∧
    decode 0xFFFF7BFF#32 = .br7Sr2 ones ∧
    decode 0xFFFF83FF#32 = .br8Sr0 ones ∧
    decode 0xFFFF87FF#32 = .br8Sr1 ones ∧
    decode 0xFFFF8BFF#32 = .br8Sr2 ones := by
  decide

theorem test_decode_br9to12_smallest :
    decode 0xFFE09000#32 = .br9Sr0 zeros ∧
    decode 0xFFE09400#32 = .br9Sr1 zeros ∧
    decode 0xFFE09800#32 = .br9Sr2 zeros ∧
    decode 0xFFE0A000#32 = .br10Sr0 zeros ∧
    decode 0xFFE0A400#32 = .br10Sr1 zeros ∧
    decode 0xFFE0A800#32 = .br10Sr2 zeros ∧
    decode 0xFFE0B000#32 = .br11Sr0 zeros ∧
    decode 0xFFE0B400#32 = .br11Sr1 zeros ∧
    decode 0xFFE0B800#32 = .br11Sr2 zeros ∧
    decode 0xFFE0C000#32 = .br12Sr0 zeros ∧
    decode 0xFFE0C400#32 = .br12Sr1 zeros ∧
    decode 0xFFE0C800#32 = .br12Sr2 zeros := by
  decide

theorem test_decode_br9to12_largest :
    decode 0xFFFF93FF#32 = .br9Sr0 ones ∧
    decode 0xFFFF97FF#32 = .br9Sr1 ones ∧
    decode 0xFFFF9BFF#32 = .br9Sr2 ones ∧
    decode 0xFFFFA3FF#32 = .br10Sr0 ones ∧
    decode 0xFFFFA7FF#32 = .br10Sr1 ones ∧
    decode 0xFFFFABFF#32 = .br10Sr2 ones ∧
    decode 0xFFFFB3FF#32 = .br11Sr0 ones ∧
    decode 0xFFFFB7FF#32 = .br11Sr1 ones ∧
    decode 0xFFFFBBFF#32 = .br11Sr2 ones ∧
    decode 0xFFFFC3FF#32 = .br12Sr0 ones ∧
    decode 0xFFFFC7FF#32 = .br12Sr1 ones ∧
    decode 0xFFFFCBFF#32 = .br12Sr2 ones := by
  decide

theorem test_decode_br13to14_smallest :
    decode 0xFFE0D000#32 = .br13Sr0 zeros ∧
    decode 0xFFE0D400#32 = .br13Sr1 zeros ∧
    decode 0xFFE0D800#32 = .br13Sr2 zeros ∧
    decode 0xFFE0E000#32 = .br14Sr0 zeros ∧
    decode 0xFFE0E400#32 = .br14Sr1 zeros ∧
    decode 0xFFE0E800#32 = .br14Sr2 zeros := by
  decide

theorem test_decode_br13to14_largest :
    decode 0xFFFFD3FF#32 = .br13Sr0 ones ∧
    decode 0xFFFFD7FF#32 = .br13Sr1 ones ∧
    decode 0xFFFFDBFF#32 = .br13Sr2 ones ∧
    decode 0xFFFFE3FF#32 = .br14Sr0 ones ∧
    decode 0xFFFFE7FF#32 = .br14Sr1 ones ∧
    decode 0xFFFFEBFF#32 = .br14Sr2 ones := by
  decide

/-! ## Decoding: words written out bit by bit (30_encoding.md R90; 95_test_vectors.md V2, section 3) -/

/-- Bits 11111111111 | 11 | 01 | 1 | 1001 | 00 | 0 | 0 | 01 | 10 | 0 | 1 | 00. -/
theorem test_decode_br9Sr0_bits :
    decode 0b11111111111_11_01_1_1001_00_0_0_01_10_0_1_00#32 =
      .br9Sr0 ⟨3#2, 1#2, true, false, false, 1#2, 2#2, false, true, 0#2⟩ := by decide

/-- Bits 11111111111 | 00 | 01 | 0 | 1010 | 00 | 1 | 1 | 10 | 11 | 1 | 0 | 10. -/
theorem test_decode_br10Sr0_bits :
    decode 0b11111111111_00_01_0_1010_00_1_1_10_11_1_0_10#32 =
      .br10Sr0 ⟨0#2, 1#2, false, true, true, 2#2, 3#2, true, false, 2#2⟩ := by decide

/-- Good sync, layer 2, bitrate index 0, sample-rate index 1, private bit. -/
theorem test_decode_freeSr1_bits :
    decode 0b11111111111_10_10_0_0000_01_0_1_00_01_0_1_01#32 =
      .freeSr1 ⟨2#2, 2#2, false, false, true, 0#2, 1#2, false, true, 1#2⟩ := by decide

/-- Both indices reserved: the bitrate's class (40_header_decode.md R152). -/
theorem test_decode_rsvbr_bits :
    decode 0b11111111111_01_10_1_1111_11_0_1_10_00_1_0_11#32 =
      .rsvbr 3#2 ⟨1#2, 2#2, true, false, true, 2#2, 0#2, true, false, 3#2⟩ := by decide

/-- Free format with a reserved sample rate: the sample rate's class (42_header_classes.md R212). -/
theorem test_decode_rsvsrBr0_bits :
    decode 0b11111111111_11_01_1_0000_11_1_0_00_00_0_1_01#32 =
      .rsvsrBr0 ⟨3#2, 1#2, true, true, false, 0#2, 0#2, false, true, 1#2⟩ := by decide

/-- Six ones, a zero, then anything: row Z25, the rest below bit 25. -/
theorem test_decode_badsyncZ25_bits :
    decode 0b111111_0_0000000000000000000001011#32 = .badsyncZ25 11 := by decide

/-- The eleven words of `95_test_vectors.md`, section 3: `0xFFFB9000` with one sync bit cleared. -/
theorem test_decode_one_sync_bit_cleared :
    decode 0x7FFB9000#32 = .badsyncZ31 0x7FFB9000 ∧ decode 0xBFFB9000#32 = .badsyncZ30 0x3FFB9000 ∧
    decode 0xDFFB9000#32 = .badsyncZ29 0x1FFB9000 ∧ decode 0xEFFB9000#32 = .badsyncZ28 0x0FFB9000 ∧
    decode 0xF7FB9000#32 = .badsyncZ27 0x07FB9000 ∧ decode 0xFBFB9000#32 = .badsyncZ26 0x03FB9000 ∧
    decode 0xFDFB9000#32 = .badsyncZ25 0x01FB9000 ∧ decode 0xFEFB9000#32 = .badsyncZ24 0x00FB9000 ∧
    decode 0xFF7B9000#32 = .badsyncZ23 0x007B9000 ∧ decode 0xFFBB9000#32 = .badsyncZ22 0x003B9000 ∧
    decode 0xFFDB9000#32 = .badsyncZ21 0x001B9000 := by decide

/-- The encoder on the same words. -/
theorem test_encode_words :
    encode (.br9Sr0 ⟨3#2, 1#2, true, false, false, 1#2, 2#2, false, true, 0#2⟩) = 0xFFFB9064#32 ∧
    encode (.rsvbr 3#2 ones) = 0xFFFFFFFF#32 ∧ encode (.badsyncZ21 0x1B9000) = 0xFFDB9000#32 := by
  decide

/-- Fewer than four bytes hold no header (43_sequencer.md R301). -/
theorem test_decodeBytes_truncated :
    decodeBytes [] = .error .truncatedHeader ∧
    decodeBytes [0xFF#8, 0xFB#8, 0x14#8] = .error .truncatedHeader := by decide

/-- Four bytes hold one, and what follows is left. -/
theorem test_decodeBytes_header :
    decodeBytes [0xFF#8, 0xFB#8, 0x90#8, 0x64#8, 0xAA#8] =
      .ok (.br9Sr0 ⟨3#2, 1#2, true, false, false, 1#2, 2#2, false, true, 0#2⟩, [0xAA#8]) := by decide

/-- The host's numbering: bit 0 is the least significant bit of the word. -/
theorem test_decodeTableWord : decodeTableWord 32 0xFFE01000 = some (.br1Sr0 zeros) := by decide

/-- Examples of 30_encoding.md R120 and 95_test_vectors.md, sections 4 and 5. -/
theorem test_hdr_notation :
    HdrArgs.word { ver := 3, lay := 1, prot := 1, br := 9 } = 0xFFFB9000#32 ∧
    HdrArgs.word { ver := 2, lay := 3, prot := 1, br := 1, sr := 1 } = 0xFFF71400#32 ∧
    HdrArgs.word { ver := 3, lay := 1, prot := 1, br := 14, sr := 2, pad := 1 } = 0xFFFBEA00#32 := by
  decide

/-- The operand order of the assembly: 95_test_vectors.md, section 3. -/
theorem test_assemble :
    assemble 0x01#8 0x02#8 0x03#8 0x04#8 = 0x01020304#32 ∧
    assemble 0x64#8 0x90#8 0xFB#8 0xFF#8 = 0x6490FBFF#32 := by decide

/-! ## HDEC (95_test_vectors.md V2) -/

/-- One row of V2: the twelve fields after `sync` in word order, then kbps, free, hz, the flags. -/
def row (v l : BitVec 2) (p : Bool) (bri : BitVec 4) (sri : BitVec 2) (pad priv : Bool)
    (cm mx : BitVec 2) (cp og : Bool) (em : BitVec 2) (kbps : BitVec 9) (free : Bool)
    (hz : BitVec 16) (vr lr er valid : Bool) : FrameHeader :=
  ⟨0x7FF#11, v, l, p, bri, sri, pad, priv, cm, mx, cp, og, em, kbps, free, hz, vr, lr, er, valid⟩

theorem test_decodeLen_rows_1 :
    decodeLen 0xFFFB9064#32 = .ok (row 3#2 1#2 true 9#4 0#2 false false 1#2 2#2
      false true 0#2 128#9 false 44100#16 false false false true, 417) ∧
    decodeLen 0xFFE2A3BA#32 = .ok (row 0#2 1#2 false 10#4 0#2 true true 2#2 3#2
      true false 2#2 160#9 false 44100#16 false false true true, 523) ∧
    decodeLen 0xFFFD5A5D#32 = .ok (row 3#2 2#2 true 5#4 2#2 true false 1#2 1#2
      true true 1#2 64#9 false 32000#16 false false false true, 289) ∧
    decodeLen 0xFFFB9000#32 = .ok (row 3#2 1#2 true 9#4 0#2 false false 0#2 0#2
      false false 0#2 128#9 false 44100#16 false false false true, 417) ∧
    decodeLen 0xFFFB9200#32 = .ok (row 3#2 1#2 true 9#4 0#2 true false 0#2 0#2
      false false 0#2 128#9 false 44100#16 false false false true, 418) ∧
    decodeLen 0xFFFB1400#32 = .ok (row 3#2 1#2 true 1#4 1#2 false false 0#2 0#2
      false false 0#2 32#9 false 48000#16 false false false true, 96) ∧
    decodeLen 0xFFFB1600#32 = .ok (row 3#2 1#2 true 1#4 1#2 true false 0#2 0#2
      false false 0#2 32#9 false 48000#16 false false false true, 97) ∧
    decodeLen 0xFFFBE000#32 = .ok (row 3#2 1#2 true 14#4 0#2 false false 0#2 0#2
      false false 0#2 320#9 false 44100#16 false false false true, 1044) := by
  decide

theorem test_decodeLen_rows_2 :
    decodeLen 0xFFFBE200#32 = .ok (row 3#2 1#2 true 14#4 0#2 true false 0#2 0#2
      false false 0#2 320#9 false 44100#16 false false false true, 1045) ∧
    decodeLen 0xFFE00000#32 = .ok (row 0#2 0#2 false 0#4 0#2 false false 0#2 0#2
      false false 0#2 0#9 true 44100#16 false true false false, 0) ∧
    decodeLen 0xFFFB0200#32 = .ok (row 3#2 1#2 true 0#4 0#2 true false 0#2 0#2
      false false 0#2 0#9 true 44100#16 false false false true, 0) ∧
    decodeLen 0xFFEA1400#32 = .ok (row 1#2 1#2 false 1#4 1#2 false false 0#2 0#2
      false false 0#2 32#9 false 48000#16 true false false false, 96) ∧
    decodeLen 0xFFF91400#32 = .ok (row 3#2 0#2 true 1#4 1#2 false false 0#2 0#2
      false false 0#2 32#9 false 48000#16 false true false false, 96) ∧
    decodeLen 0xFFE81400#32 = .ok (row 1#2 0#2 false 1#4 1#2 false false 0#2 0#2
      false false 0#2 32#9 false 48000#16 true true false false, 96) ∧
    decodeLen 0xFFEB1400#32 = .ok (row 1#2 1#2 true 1#4 1#2 false false 0#2 0#2
      false false 0#2 32#9 false 48000#16 true false false false, 96) ∧
    decodeLen 0xFFF81000#32 = .ok (row 3#2 0#2 false 1#4 0#2 false false 0#2 0#2
      false false 0#2 32#9 false 44100#16 false true false false, 104) := by
  decide

theorem test_decodeLen_rows_3 :
    decodeLen 0xFFE61000#32 = .ok (row 0#2 3#2 false 1#4 0#2 false false 0#2 0#2
      false false 0#2 32#9 false 44100#16 false false false true, 104) ∧
    decodeLen 0xFFE11000#32 = .ok (row 0#2 0#2 true 1#4 0#2 false false 0#2 0#2
      false false 0#2 32#9 false 44100#16 false true false false, 104) ∧
    decodeLen 0xFFE01200#32 = .ok (row 0#2 0#2 false 1#4 0#2 true false 0#2 0#2
      false false 0#2 32#9 false 44100#16 false true false false, 105) ∧
    decodeLen 0xFFE01100#32 = .ok (row 0#2 0#2 false 1#4 0#2 false true 0#2 0#2
      false false 0#2 32#9 false 44100#16 false true false false, 104) ∧
    decodeLen 0xFFE010C0#32 = .ok (row 0#2 0#2 false 1#4 0#2 false false 3#2 0#2
      false false 0#2 32#9 false 44100#16 false true false false, 104) ∧
    decodeLen 0xFFE01030#32 = .ok (row 0#2 0#2 false 1#4 0#2 false false 0#2 3#2
      false false 0#2 32#9 false 44100#16 false true false false, 104) ∧
    decodeLen 0xFFE01008#32 = .ok (row 0#2 0#2 false 1#4 0#2 false false 0#2 0#2
      true false 0#2 32#9 false 44100#16 false true false false, 104) ∧
    decodeLen 0xFFE01004#32 = .ok (row 0#2 0#2 false 1#4 0#2 false false 0#2 0#2
      false true 0#2 32#9 false 44100#16 false true false false, 104) := by
  decide

theorem test_decodeLen_rows_4 :
    decodeLen 0xFFE01003#32 = .ok (row 0#2 0#2 false 1#4 0#2 false false 0#2 0#2
      false false 3#2 32#9 false 44100#16 false true false false, 104) ∧
    decodeLen 0xFFE01002#32 = .ok (row 0#2 0#2 false 1#4 0#2 false false 0#2 0#2
      false false 2#2 32#9 false 44100#16 false true true false, 104) ∧
    decodeLen 0xFFFFEBFF#32 = .ok (row 3#2 3#2 true 14#4 2#2 true true 3#2 3#2
      true true 3#2 320#9 false 32000#16 false false false true, 1441) := by
  decide

/-- The rows of V2 that are errors, and the error priority of section 4. -/
theorem test_decodeLen_errors :
    decodeLen 0xFFFFFFFF#32 = .error .reservedBitrate ∧
    decodeLen 0xFFFBF000#32 = .error .reservedBitrate ∧
    decodeLen 0xFFFB9C00#32 = .error .reservedSampleRate ∧
    decodeLen 0xFFFFFB14#32 = .error .reservedBitrate ∧
    decodeLen 0xFFE00C00#32 = .error .reservedSampleRate ∧
    decodeLen 0x7FFBFC00#32 = .error .badSync ∧ decodeLen 0xFFFBFC00#32 = .error .reservedBitrate ∧
    decodeLen 0xFFFB0C00#32 = .error .reservedSampleRate := by decide

/-- FLEN on a record with sample rate 0: the zero test comes before free format (section 5). -/
theorem test_frameLength_zero_rate :
    frameLength 128#9 false 0#16 false = .error .divisionByZero ∧
    frameLength 0#9 true 0#16 true = .error .divisionByZero := by decide

/-- The status codes and the zeros beside an error (40_header_decode.md R153). -/
theorem test_hdecPort :
    (hdecPort 0xFFFB9200#32).status = 0#3 ∧ (hdecPort 0xFFFB9200#32).length = 418#11 ∧
    hdecPort 0xFFFBF000#32 = ⟨2#3, noHeader, 0#11⟩ ∧ (hdecPort 0#32).status = 1#3 := by decide

/-- The flags for the sixteen pairs of version and layer (section 4): `is_valid` only. -/
theorem test_isValid :
    [0xFFE11400#32, 0xFFE31400#32, 0xFFE51400#32, 0xFFE71400#32, 0xFFE91400#32, 0xFFEB1400#32,
      0xFFED1400#32, 0xFFEF1400#32, 0xFFF11400#32, 0xFFF31400#32, 0xFFF51400#32, 0xFFF71400#32,
      0xFFF91400#32, 0xFFFB1400#32, 0xFFFD1400#32, 0xFFFF1400#32].map
        (fun w => (hdecPort w).header.isValid) =
      [false, true, true, true, false, false, false, false, false, true, true, true, false, true,
        true, true] := by decide

/-! ## FLEN (95_test_vectors.md V3) -/

/-- The length of a word, none where it has no header. -/
def lengthOf (w : Word) : Option Nat :=
  match decodeLen w with
  | .ok (_, l) => some l
  | .error _ => none

theorem test_lengths_1 :
    [
      0xFFFB1000#32, 0xFFFB1200#32,
      0xFFFB1400#32, 0xFFFB1600#32,
      0xFFFB1800#32, 0xFFFB1A00#32,
      0xFFFB2000#32, 0xFFFB2200#32,
      0xFFFB2400#32, 0xFFFB2600#32,
      0xFFFB2800#32, 0xFFFB2A00#32,
      0xFFFB3000#32, 0xFFFB3200#32,
      0xFFFB3400#32, 0xFFFB3600#32,
      0xFFFB3800#32, 0xFFFB3A00#32,
      0xFFFB4000#32, 0xFFFB4200#32,
      0xFFFB4400#32, 0xFFFB4600#32,
      0xFFFB4800#32, 0xFFFB4A00#32,
      0xFFFB5000#32, 0xFFFB5200#32,
      0xFFFB5400#32, 0xFFFB5600#32 ].map lengthOf =
    [
      some 104, some 105,
      some 96, some 97,
      some 144, some 145,
      some 130, some 131,
      some 120, some 121,
      some 180, some 181,
      some 156, some 157,
      some 144, some 145,
      some 216, some 217,
      some 182, some 183,
      some 168, some 169,
      some 252, some 253,
      some 208, some 209,
      some 192, some 193 ] := by
  decide

theorem test_lengths_2 :
    [
      0xFFFB5800#32, 0xFFFB5A00#32,
      0xFFFB6000#32, 0xFFFB6200#32,
      0xFFFB6400#32, 0xFFFB6600#32,
      0xFFFB6800#32, 0xFFFB6A00#32,
      0xFFFB7000#32, 0xFFFB7200#32,
      0xFFFB7400#32, 0xFFFB7600#32,
      0xFFFB7800#32, 0xFFFB7A00#32,
      0xFFFB8000#32, 0xFFFB8200#32,
      0xFFFB8400#32, 0xFFFB8600#32,
      0xFFFB8800#32, 0xFFFB8A00#32,
      0xFFFB9000#32, 0xFFFB9200#32,
      0xFFFB9400#32, 0xFFFB9600#32,
      0xFFFB9800#32, 0xFFFB9A00#32,
      0xFFFBA000#32, 0xFFFBA200#32 ].map lengthOf =
    [
      some 288, some 289,
      some 261, some 262,
      some 240, some 241,
      some 360, some 361,
      some 313, some 314,
      some 288, some 289,
      some 432, some 433,
      some 365, some 366,
      some 336, some 337,
      some 504, some 505,
      some 417, some 418,
      some 384, some 385,
      some 576, some 577,
      some 522, some 523 ] := by
  decide

theorem test_lengths_3 :
    [
      0xFFFBA400#32, 0xFFFBA600#32,
      0xFFFBA800#32, 0xFFFBAA00#32,
      0xFFFBB000#32, 0xFFFBB200#32,
      0xFFFBB400#32, 0xFFFBB600#32,
      0xFFFBB800#32, 0xFFFBBA00#32,
      0xFFFBC000#32, 0xFFFBC200#32,
      0xFFFBC400#32, 0xFFFBC600#32,
      0xFFFBC800#32, 0xFFFBCA00#32,
      0xFFFBD000#32, 0xFFFBD200#32,
      0xFFFBD400#32, 0xFFFBD600#32,
      0xFFFBD800#32, 0xFFFBDA00#32,
      0xFFFBE000#32, 0xFFFBE200#32,
      0xFFFBE400#32, 0xFFFBE600#32,
      0xFFFBE800#32, 0xFFFBEA00#32 ].map lengthOf =
    [
      some 480, some 481,
      some 720, some 721,
      some 626, some 627,
      some 576, some 577,
      some 864, some 865,
      some 731, some 732,
      some 672, some 673,
      some 1008, some 1009,
      some 835, some 836,
      some 768, some 769,
      some 1152, some 1153,
      some 1044, some 1045,
      some 960, some 961,
      some 1440, some 1441 ] := by
  decide

/-- The length of the frame a step emits for the candidate `w`, none where it emits none. -/
def emittedLength (w : Word) : Option Nat :=
  match nextOf (step (candidate 0 w 2000)) with
  | some t => if t.st = .frameEmitted then some t.outFrame.length.toNat else none
  | none => none

theorem test_emit_each_class_1 :
    [
      0xFFFB1000#32, 0xFFFB1200#32,
      0xFFFB1400#32, 0xFFFB1600#32,
      0xFFFB1800#32, 0xFFFB1A00#32,
      0xFFFB2000#32, 0xFFFB2200#32,
      0xFFFB2400#32, 0xFFFB2600#32,
      0xFFFB2800#32, 0xFFFB2A00#32,
      0xFFFB3000#32, 0xFFFB3200#32,
      0xFFFB3400#32, 0xFFFB3600#32,
      0xFFFB3800#32, 0xFFFB3A00#32,
      0xFFFB4000#32, 0xFFFB4200#32,
      0xFFFB4400#32, 0xFFFB4600#32,
      0xFFFB4800#32, 0xFFFB4A00#32,
      0xFFFB5000#32, 0xFFFB5200#32,
      0xFFFB5400#32, 0xFFFB5600#32 ].map emittedLength =
    [
      some 104, some 105,
      some 96, some 97,
      some 144, some 145,
      some 130, some 131,
      some 120, some 121,
      some 180, some 181,
      some 156, some 157,
      some 144, some 145,
      some 216, some 217,
      some 182, some 183,
      some 168, some 169,
      some 252, some 253,
      some 208, some 209,
      some 192, some 193 ] := by
  decide

theorem test_emit_each_class_2 :
    [
      0xFFFB5800#32, 0xFFFB5A00#32,
      0xFFFB6000#32, 0xFFFB6200#32,
      0xFFFB6400#32, 0xFFFB6600#32,
      0xFFFB6800#32, 0xFFFB6A00#32,
      0xFFFB7000#32, 0xFFFB7200#32,
      0xFFFB7400#32, 0xFFFB7600#32,
      0xFFFB7800#32, 0xFFFB7A00#32,
      0xFFFB8000#32, 0xFFFB8200#32,
      0xFFFB8400#32, 0xFFFB8600#32,
      0xFFFB8800#32, 0xFFFB8A00#32,
      0xFFFB9000#32, 0xFFFB9200#32,
      0xFFFB9400#32, 0xFFFB9600#32,
      0xFFFB9800#32, 0xFFFB9A00#32,
      0xFFFBA000#32, 0xFFFBA200#32 ].map emittedLength =
    [
      some 288, some 289,
      some 261, some 262,
      some 240, some 241,
      some 360, some 361,
      some 313, some 314,
      some 288, some 289,
      some 432, some 433,
      some 365, some 366,
      some 336, some 337,
      some 504, some 505,
      some 417, some 418,
      some 384, some 385,
      some 576, some 577,
      some 522, some 523 ] := by
  decide

theorem test_emit_each_class_3 :
    [
      0xFFFBA400#32, 0xFFFBA600#32,
      0xFFFBA800#32, 0xFFFBAA00#32,
      0xFFFBB000#32, 0xFFFBB200#32,
      0xFFFBB400#32, 0xFFFBB600#32,
      0xFFFBB800#32, 0xFFFBBA00#32,
      0xFFFBC000#32, 0xFFFBC200#32,
      0xFFFBC400#32, 0xFFFBC600#32,
      0xFFFBC800#32, 0xFFFBCA00#32,
      0xFFFBD000#32, 0xFFFBD200#32,
      0xFFFBD400#32, 0xFFFBD600#32,
      0xFFFBD800#32, 0xFFFBDA00#32,
      0xFFFBE000#32, 0xFFFBE200#32,
      0xFFFBE400#32, 0xFFFBE600#32,
      0xFFFBE800#32, 0xFFFBEA00#32 ].map emittedLength =
    [
      some 480, some 481,
      some 720, some 721,
      some 626, some 627,
      some 576, some 577,
      some 864, some 865,
      some 731, some 732,
      some 672, some 673,
      some 1008, some 1009,
      some 835, some 836,
      some 768, some 769,
      some 1152, some 1153,
      some 1044, some 1045,
      some 960, some 961,
      some 1440, some 1441 ] := by
  decide

/-- The other thirty classes, at the largest word of each row (section 6): no frame, one byte on. -/
theorem test_reject_each_class :
    [
      0x7FFFFFFF#32,
      0xBFFFFFFF#32,
      0xDFFFFFFF#32,
      0xEFFFFFFF#32,
      0xF7FFFFFF#32,
      0xFBFFFFFF#32,
      0xFDFFFFFF#32,
      0xFEFFFFFF#32,
      0xFF7FFFFF#32,
      0xFFBFFFFF#32,
      0xFFDFFFFF#32,
      0xFFFFFFFF#32,
      0xFFFF0FFF#32,
      0xFFFF1FFF#32,
      0xFFFF2FFF#32,
      0xFFFF3FFF#32,
      0xFFFF4FFF#32,
      0xFFFF5FFF#32,
      0xFFFF6FFF#32,
      0xFFFF7FFF#32,
      0xFFFF8FFF#32,
      0xFFFF9FFF#32,
      0xFFFFAFFF#32,
      0xFFFFBFFF#32,
      0xFFFFCFFF#32,
      0xFFFFDFFF#32,
      0xFFFFEFFF#32,
      0xFFFF03FF#32,
      0xFFFF07FF#32,
      0xFFFF0BFF#32 ].map
        (fun w => (nextOf (step (candidate 3 w 2000))).map fun t => (t.st, t.cursor, t.frameCount)) =
      List.replicate 30 (some (.searching, 4, 0)) := by
  decide

/-! ## SYNC and the buffer (95_test_vectors.md, section 3) -/

theorem test_syncBytes :
    syncBytes 0xFF#8 0xFB#8 = true ∧ syncBytes 0xFF#8 0xE0#8 = true ∧ syncBytes 0xFF#8 0xFF#8 = true ∧
    syncBytes 0xFF#8 0xDF#8 = false ∧ syncBytes 0xFF#8 0x1B#8 = false ∧
    syncBytes 0xFF#8 0x7F#8 = false ∧ syncBytes 0xFE#8 0xFF#8 = false ∧
    syncBytes 0x7F#8 0xF0#8 = false ∧ syncBytes 0xE0#8 0xFF#8 = false ∧
    syncBytes 0x00#8 0x00#8 = false := by decide

/-- The buffer `00 FF FB 14 00 AA` of section 3. -/
def sixBytes : Buffer := Buffer.ofBytes [0x00#8, 0xFF#8, 0xFB#8, 0x14#8, 0x00#8, 0xAA#8]

theorem test_fetch32 :
    fetch32 sixBytes 0 = some 0x00FFFB14#32 ∧ fetch32 sixBytes 1 = some 0xFFFB1400#32 ∧
    fetch32 sixBytes 2 = some 0xFB1400AA#32 ∧ fetch32 sixBytes 3 = none ∧
    syncB sixBytes 1 = some true ∧ syncB sixBytes 0 = some false := by decide

/-- The canonical form: a zero byte is not listed, and writing 0 removes the entry. -/
theorem test_buffer_canonical :
    sixBytes = ⟨6, [(1, 0xFF#8), (2, 0xFB#8), (3, 0x14#8), (5, 0xAA#8)]⟩ ∧ sixBytes.wf = true ∧
    (sixBytes.put 2 0x00#8).cells = [(1, 0xFF#8), (3, 0x14#8), (5, 0xAA#8)] ∧
    sixBytes.put 6 0x01#8 = sixBytes ∧ sixBytes.read 4 = some 0#8 ∧ sixBytes.read 6 = none := by
  decide

/-! ## Single steps (95_test_vectors.md, section 7) -/

theorem test_S1_empty_buffer :
    nextOf (step (searchingZeros 0 0)) = some { searchingZeros 0 0 with st := .exhausted } := by decide

theorem test_S2_three_bytes :
    nextOf (step (searchingZeros 0 3)) = some { searchingZeros 0 3 with st := .exhausted } ∧
    seqReads (searchingZeros 0 3) = [] := by decide

/-- The buffer of S3. -/
def headerBytes : List Byte := [0xFF#8, 0xFB#8, 0x14#8, 0x00#8]

theorem test_S3_found :
    nextOf (step (searchingAt 0 headerBytes)) =
      some { searchingAt 0 headerBytes with
        st := .headerFound, hdrStart := 0, hdrWord := 0xFFFB1400#32 } := by decide

theorem test_S4_advance :
    nextOf (step (searchingZeros 188 192)) = some { searchingZeros 188 192 with cursor := 189 } := by decide

theorem test_S5_S6_S7_exhaust :
    nextOf (step (searchingZeros 189 192)) = some { searchingZeros 189 192 with st := .exhausted } ∧
    nextOf (step (searchingZeros 192 192)) = some { searchingZeros 192 192 with st := .exhausted } ∧
    nextOf (step (searchingZeros 500 192)) = some { searchingZeros 500 192 with st := .exhausted } := by
  decide

theorem test_S8_limit_zero :
    nextOf (step { searchingZeros 0 192 with limitEn := true }) =
      some { searchingZeros 0 192 with limitEn := true, limitHit := true, st := .exhausted } := by
  decide

theorem test_S9_limit_before_end :
    (nextOf (step { searchingZeros 192 192 with limitEn := true, maxFrames := 2, frameCount := 2 })).map
      (fun t => (t.st, t.limitHit)) = some (.exhausted, true) := by decide

/-- The limit is off although the count is beyond it. -/
theorem test_S10_limit_disabled :
    (nextOf (step { searchingAt 0 [0xFF#8, 0xE0#8, 0x00#8, 0x00#8] with frameCount := 5 })).map
      (fun t => (t.st, t.hdrWord)) = some (.headerFound, 0xFFE00000#32) := by decide

theorem test_S11_below_limit :
    (nextOf (step
      { candidate 96 0xFFFB1400#32 192 with
        st := .searching, hdrStart := 0, hdrWord := 0#32, limitEn := true, maxFrames := 2,
        frameCount := 1 })).map
      (fun t => (t.st, t.hdrStart, t.hdrWord)) = some (.headerFound, 96, 0xFFFB1400#32) := by decide

theorem test_S12_S13_S14_error :
    nextOf (step (candidate 7 0xFFFBF000#32 1000)) =
      some { candidate 7 0xFFFBF000#32 1000 with st := .searching, cursor := 8 } ∧
    nextOf (step (candidate 7 0xFFFB9C00#32 1000)) =
      some { candidate 7 0xFFFB9C00#32 1000 with st := .searching, cursor := 8 } ∧
    nextOf (step (candidate 7 0x12345678#32 1000)) =
      some { candidate 7 0x12345678#32 1000 with st := .searching, cursor := 8 } := by decide

theorem test_S15_free_format :
    nextOf (step (candidate 3 0xFFFB0200#32 1000)) =
      some { candidate 3 0xFFFB0200#32 1000 with st := .searching, cursor := 4 } := by decide

theorem test_S16_S17_overrun :
    nextOf (step (candidate 10 0xFFFB1400#32 100)) =
      some { candidate 10 0xFFFB1400#32 100 with st := .searching, cursor := 11 } ∧
    nextOf (step (candidate 10 0xFFFB1400#32 105)) =
      some { candidate 10 0xFFFB1400#32 105 with st := .searching, cursor := 11 } := by decide

theorem test_S18_emit : nextOf (step (candidate 10 0xFFFB1400#32 106)) = some presenting := by decide

/-- A reserved version is emitted and flagged (43_sequencer.md R312). -/
theorem test_S19_emit_invalid :
    (nextOf (step (candidate 0 0xFFEB1400#32 96))).map
      (fun t => (t.outFrame, (outputs t).header.versionReserved, (outputs t).header.isValid)) =
      some (⟨0xFFEB1400#32, 0, 96#11⟩, true, false) := by decide

theorem test_S20_pull :
    nextOf (step { presenting with hostEvents := [.command .pull] }) =
      some { presenting with st := .searching } := by decide

theorem test_S21_S22_no_step :
    nextOf (step presenting) = some presenting ∧ nextOf (step State.reset) = some State.reset ∧
    nextOf (step { presenting with hostEvents := [.idle, .command .pull] }) =
      some { presenting with hostEvents := [.command .pull] } := by decide

/-! ## Host commands (95_test_vectors.md, section 7) -/

theorem test_K1_reset :
    nextOf (step { presenting with hostEvents := [.command .reset] }) =
      some { State.reset with buf := presenting.buf, loaded := presenting.buf } ∧
    (outputs State.reset).frameValid = false ∧ (outputs State.reset).scanDone = true ∧
    (outputs State.reset).endStatus = 2#2 ∧ (outputs State.reset).decStatus = 1#3 := by decide

theorem test_K2_K4_K7_pull_elsewhere :
    nextOf (step { State.reset with hostEvents := [.command .pull] }) = some State.reset ∧
    nextOf (step { searchingZeros 5 9 with hostEvents := [.command .pull] }) = some (searchingZeros 5 9) ∧
    nextOf (step { candidate 7 0xFFFBF000#32 99 with hostEvents := [.command .pull] }) =
      some (candidate 7 0xFFFBF000#32 99) ∧
    (nextOf (step { State.reset with frameCount := 2, hostEvents := [.command .pull] })).map
      (fun t => (outputs t).endStatus) = some 1#2 := by decide

theorem test_K3_start :
    (nextOf (step
      { State.reset with
        loaded := ⟨192, []⟩, hostEvents := [.command (.start ⟨0, 192, false, 0⟩)] })).map
      (fun t => (t.st, t.cursor, t.bufLen, (outputs t).scanDone, (outputs t).endStatus)) =
      some (.searching, 0, 192, false, 0#2) := by decide

theorem test_K5_start_over_a_record :
    (nextOf (step
      { presenting with
        loaded := ⟨192, []⟩, hostEvents := [.command (.start ⟨5, 192, true, 3⟩)] })).map
      (fun t => ((t.st, t.cursor, t.frameCount), (t.limitEn, t.maxFrames), (t.outFrame, frameValid t))) =
      some ((.searching, 5, 0), (true, 3), (presenting.outFrame, false)) := by decide

theorem test_K6_start_clears_limitHit :
    (nextOf (step
      { State.reset with
        frameCount := 2, limitHit := true,
        hostEvents := [.command (.start ⟨0, 0, false, 0⟩)] })).map
      (fun t => (t.st, t.frameCount, t.limitHit)) = some (.searching, 0, false) := by decide

theorem test_K8_reset_with_start :
    nextOf (step { presenting with hostEvents := [.command (.resetWithStart ⟨0, 9, true, 1⟩)] }) =
      some { State.reset with buf := presenting.buf, loaded := presenting.buf } := by decide

/-- The host loads a buffer in mid-scan: the scan's own stays until the next Start, which takes the
loaded one (70_reset_and_hazards.md R387, R390; assumption 5). -/
theorem test_load_in_mid_scan :
    nextOf (step { presenting with hostEvents := [.loadBuffer headerBytes] }) =
      some { presenting with loaded := ⟨4, [(0, 0xFF#8), (1, 0xFB#8), (2, 0x14#8)]⟩ } ∧
    (nextOf (step
      { presenting with
        loaded := Buffer.ofBytes headerBytes, hostEvents := [.command (.start ⟨0, 4, false, 0⟩)] })).map
      (fun t => (t.st, t.buf, t.outFrame)) =
      some (.searching, Buffer.ofBytes headerBytes, presenting.outFrame) := by decide

/-- A `bl` beyond the loaded buffer has no move, one within it has (R388; assumption 4). -/
theorem test_start_beyond_the_buffer :
    faultOf (step { presenting with hostEvents := [.command (.start ⟨0, 1452, false, 0⟩)] }) =
      some .bufLenBeyondBuffer ∧
    (nextOf (step { presenting with hostEvents := [.command (.start ⟨0, 1451, false, 0⟩)] })).map
      (·.bufLen) = some 1451 := by decide

/-- A read where no byte is readable, in a state no run reaches (assumption 4). -/
theorem test_unreadable_byte :
    faultOf (step { searchingZeros 0 4 with buf := ⟨1, []⟩ }) = some .unreadableByte := by decide

/-- A word placed by the host's hook is what the next step executes, from reset. -/
theorem test_withFetchWord :
    (nextOf (step (State.reset.withFetchWord 32 0xFFE0E800))).map
      (fun t => (t.st, t.outFrame, t.cursor)) =
      some (.frameEmitted, ⟨0xFFE0E800#32, 0, 1440#11⟩, 1440) ∧
    (nextOf (step (State.reset.withFetchWord 32 0x80000000))).map (fun t => (t.st, t.cursor)) =
      some (.searching, 1) := by decide

/-! ## Runs (70_reset_and_hazards.md R397) -/

/-- A record counts when `st` becomes FrameEmitted, not at its Pull; a host that waits adds none. -/
theorem test_record_is_presented_before_the_pull :
    (scanRun [false] (candidate 10 0xFFFB1400#32 106)).1 = [presenting.outFrame] ∧
    (scanRun [false, false, false] (candidate 10 0xFFFB1400#32 106)).1 = [presenting.outFrame] ∧
    (scanRun [false, true, false] (candidate 10 0xFFFB1400#32 106)).1 = [presenting.outFrame] ∧
    (scanRun [false, true, false] (candidate 10 0xFFFB1400#32 106)).2.st = .exhausted := by decide

/-! ## Witnesses for the statements with hypotheses -/

theorem witness_DecodeOfEncodeIsTheInstruction :
    (Instr.badsyncZ31 (2 ^ 31 - 1)).wellFormed = true ∧ (Instr.badsyncZ21 0).wellFormed = true ∧
    (Instr.rsvbr 3#2 ones).wellFormed = true ∧ (Instr.br14Sr2 zeros).wellFormed = true := by decide

theorem witness_EveryWordIsInExactlyOneRow :
    (Instr.br14Sr2 ones).row ∈ opcodeRows ∧
    (Instr.br14Sr2 ones).row.selects 0xFFFFEBFF#32 = true := by decide

theorem witness_BadSyncRowsSplitTheBadSyncWords :
    (21, Instr.badsyncZ21) ∈ badSyncRows ∧ (badSyncRow 21).selects 0xFFDFFFFF#32 = true ∧
    (badSyncRow 31).selects 0x7FFFFFFF#32 = true :=
  ⟨by simp [badSyncRows], by decide, by decide⟩

theorem witness_HdrNotationSetsEachField :
    HdrArgs.wellFormed ⟨3, 3, 1, 15, 3, 1, 1, 3, 3, 1, 1, 3⟩ = true ∧
    HdrArgs.wellFormed ⟨0, 0, 0, 0, 0, 0, 0, 0, 0, 0, 0, 0⟩ = true := by decide

theorem witness_DecodeGivesEveryMember :
    xSync 0xFFDFFFFF#32 ≠ 0x7FF#11 ∧
    (xSync 0xFFFFFFFF#32 = 0x7FF#11 ∧ xBridx 0xFFFFFFFF#32 = 15#4) ∧
    (xSync 0xFFE0EC00#32 = 0x7FF#11 ∧ xBridx 0xFFE0EC00#32 ≠ 15#4 ∧ xSridx 0xFFE0EC00#32 = 3#2) ∧
    (xSync 0xFFFFEBFF#32 = 0x7FF#11 ∧ xBridx 0xFFFFEBFF#32 ≠ 15#4 ∧ xSridx 0xFFFFEBFF#32 ≠ 3#2) := by
  decide

theorem witness_ReservedIndicesNeverGiveANumber :
    (xSync 0xFFE0F000#32 = 0x7FF#11 ∧ xBridx 0xFFE0F000#32 = 15#4) ∧
    (xSync 0xFFE00C00#32 = 0x7FF#11 ∧ xSridx 0xFFE00C00#32 = 3#2) := by decide

theorem witness_PortsCarryTheResult :
    (∃ h, decodeLen 0xFFFFEBFF#32 = .ok (h, 1441)) ∧ decodeLen 0#32 = .error .badSync ∧
    decodeLen 0xFFFFFFFF#32 = .error .reservedBitrate ∧
    decodeLen 0xFFE00C00#32 = .error .reservedSampleRate :=
  ⟨⟨_, rfl⟩, rfl, rfl, rfl⟩

theorem witness_SyncPatternByMask :
    sixBytes.read 4 = some 0x00#8 ∧ sixBytes.read 5 = some 0xAA#8 := by decide

theorem witness_FetchIsBigEndianAtAnyOffset :
    2 + 4 ≤ sixBytes.len ∧ sixBytes.len < 3 + 4 := by decide

theorem witness_SyncOnBytesIsSyncOnTheWord : 2 + 4 ≤ sixBytes.len := by decide

theorem witness_LengthTable :
    (⟨.br1Sr0, 0xFFE01000#32, 1#4, 0#2, 32#9, 44100#16, 104, 21600⟩ : NumericRow) ∈ numericRows ∧
    (⟨.br14Sr2, 0xFFE0E800#32, 14#4, 2#2, 320#9, 32000#16, 1440, 0⟩ : NumericRow) ∈ numericRows := by
  constructor <;>
    simp [numericRows, numericRows1to4, numericRows5to8, numericRows9to12, numericRows13to14]

theorem witness_LengthArithmeticIsBounded :
    (∃ h, decodeLen 0xFFFB1400#32 = .ok (h, 96) ∧ h.bitrateFree = false) ∧
    (∃ h, decodeLen 0xFFFBEA00#32 = .ok (h, 1441) ∧ h.bitrateFree = false) :=
  ⟨⟨_, rfl, rfl⟩, ⟨_, rfl, rfl⟩⟩

theorem witness_DivisionByZeroOnlyStandalone : ∃ h, decodeHeader 0xFFE00800#32 = .ok h := ⟨_, rfl⟩

theorem witness_FreeFormatHasLengthZero :
    (∃ h, decodeLen 0xFFFF03FF#32 = .ok (h, 0)) ∧
    (candidate 3 0xFFFF03FF#32 2000).st = .headerFound ∧
    xBridx (candidate 3 0xFFFF03FF#32 2000).hdrWord = 0#4 ∧
    ∃ t, seqStep (candidate 3 0xFFFF03FF#32 2000) = .next t :=
  ⟨⟨_, rfl⟩, rfl, rfl, ⟨_, rfl⟩⟩

/-- Two words of one index pair that differ in version, layer and padding (section 5). -/
theorem witness_PaddingAddsOneByteAtEveryLayer :
    (∃ h, decodeLen 0xFFF79200#32 = .ok (h, 418) ∧ h.bitrateFree = false) ∧
    (∃ h, decodeLen 0xFFE29000#32 = .ok (h, 417)) ∧ xBridx 0xFFF79200#32 = xBridx 0xFFE29000#32 ∧
    xSridx 0xFFF79200#32 = xSridx 0xFFE29000#32 :=
  ⟨⟨_, rfl, rfl⟩, ⟨_, rfl⟩, rfl, rfl⟩

theorem witness_BadSyncClassRule :
    (21, Instr.badsyncZ21) ∈ badSyncRows ∧ 2 ^ 21 - 1 < 2 ^ 21 ∧
    (candidate 7 0xFFDFFFFF#32 1000).st = .headerFound ∧
    ((searchingAt 0 [0xFF#8, 0xDF#8, 0xFF#8, 0xFF#8]).st = .searching ∧
      (searchingAt 0 [0xFF#8, 0xDF#8, 0xFF#8, 0xFF#8]).limitEn = false ∧
      0 + 4 ≤ (searchingAt 0 [0xFF#8, 0xDF#8, 0xFF#8, 0xFF#8]).bufLen ∧
      fetch32 (searchingAt 0 [0xFF#8, 0xDF#8, 0xFF#8, 0xFF#8]).buf 0 =
        some (encode (.badsyncZ21 (2 ^ 21 - 1)))) ∧
    ∃ t, seqStep (searchingAt 0 headerBytes) = .next t ∧ t.st = .headerFound :=
  ⟨by simp [badSyncRows], by decide, rfl, by decide, _, rfl, rfl⟩

theorem witness_ReservedBitrateClassRule :
    (⟨0xFFE0F000#32, 0xFFE0F000#32⟩ : Row).selects 0xFFFFFFFF#32 = true ∧
    (candidate 0 0xFFFFFFFF#32 4).st = .headerFound := by decide

theorem witness_ReservedSampleRateClassRule :
    (0#4, Instr.rsvsrBr0) ∈ reservedSampleRateRows ∧ (14#4, Instr.rsvsrBr14) ∈ reservedSampleRateRows ∧
    (⟨BitVec.ofNat 32 (0xFFE00C00 + 14 * 0x1000), 0xFFE0FC00#32⟩ : Row).selects 0xFFFFEFFF#32 = true ∧
    (candidate 0 0xFFFFEFFF#32 4).st = .headerFound :=
  ⟨by simp [reservedSampleRateRows], by simp [reservedSampleRateRows], by decide, rfl⟩

theorem witness_FreeFormatClassRules :
    (⟨0xFFE00800#32, 0xFFE0FC00#32⟩ : Row).selects 0xFFFF0BFF#32 = true ∧
    (candidate 0 0xFFFF0BFF#32 4).st = .headerFound := by decide

/-- A frame that just fits, and one that overruns by a byte. -/
theorem witness_NumericClassRules1to4 :
    (⟨0xFFE01400#32, 0xFFE0FC00#32⟩ : Row).selects 0xFFFF17FF#32 = true ∧
    ((candidate 10 0xFFFF17FF#32 107).st = .headerFound ∧
      (candidate 10 0xFFFF17FF#32 107).hdrStart + (96 + ones.padding.toNat) ≤ 107) ∧
    106 < (candidate 10 0xFFFF17FF#32 106).hdrStart + (96 + ones.padding.toNat) := by decide

theorem witness_NumericClassRules5to8 :
    ((candidate 0 0xFFFF8BFF#32 505).st = .headerFound ∧
      (candidate 0 0xFFFF8BFF#32 505).hdrStart + (504 + ones.padding.toNat) ≤ 505) ∧
    504 < (candidate 0 0xFFFF8BFF#32 504).hdrStart + (504 + ones.padding.toNat) := by decide

theorem witness_NumericClassRules9to12 :
    ((candidate 0 0xFFFFCBFF#32 1009).st = .headerFound ∧
      (candidate 0 0xFFFFCBFF#32 1009).hdrStart + (1008 + ones.padding.toNat) ≤ 1009) ∧
    1008 < (candidate 0 0xFFFFCBFF#32 1008).hdrStart + (1008 + ones.padding.toNat) := by decide

theorem witness_NumericClassRules13to14 :
    ((candidate 0 0xFFFFEBFF#32 1441).st = .headerFound ∧
      (candidate 0 0xFFFFEBFF#32 1441).hdrStart + (1440 + ones.padding.toNat) ≤ 1441) ∧
    1440 < (candidate 0 0xFFFFEBFF#32 1440).hdrStart + (1440 + ones.padding.toNat) := by decide

theorem witness_NothingInTheBufferStopsTheMachine : (searchingAt 0 headerBytes).Readable := by
  unfold State.Readable; decide

theorem witness_RejectedClassesFrame :
    (AlwaysRejected (.badsyncZ31 0) ∧ AlwaysRejected (.rsvbr 3#2 ones) ∧
      AlwaysRejected (.rsvsrBr14 ones) ∧ AlwaysRejected (.freeSr2 ones)) ∧
    ∃ t, exec (.freeSr2 ones) (candidate 3 0xFFFF0BFF#32 2000) = .next t :=
  ⟨⟨.inl ⟨(31, .badsyncZ31), by simp [badSyncRows], 0, rfl⟩, .inr (.inl ⟨_, _, rfl⟩),
      .inr (.inr (.inl ⟨(14#4, .rsvsrBr14), by simp [reservedSampleRateRows], ones, rfl⟩)),
      .inr (.inr (.inr ⟨ones, .inr (.inr rfl)⟩))⟩, _, rfl⟩

/-- An emission and a rejection of the same class. -/
theorem witness_NumericClassesFrame :
    (nextOf (exec (.br1Sr1 zeros) (candidate 10 0xFFE01400#32 106))).map (·.st) =
      some .frameEmitted ∧
    (nextOf (exec (.br1Sr1 zeros) (candidate 10 0xFFE01400#32 105))).map (·.st) =
      some .searching := by decide

theorem witness_StepRunsTheLatchedWord :
    (candidate 7 0xFFFBF000#32 99).SeqTurn ∧ (candidate 7 0xFFFBF000#32 99).st = .headerFound ∧
    State.SeqTurn { candidate 7 0xFFFBF000#32 99 with hostEvents := [.idle, .command .reset] } :=
  ⟨.inl rfl, rfl, .inr ⟨_, rfl⟩⟩

theorem witness_FetchThenRunTheDecodedInstruction :
    (searchingAt 0 headerBytes).hostEvents = [] ∧ (searchingAt 0 headerBytes).st = .searching ∧
    (searchingAt 0 headerBytes).limitEn = false ∧ 0 + 4 ≤ (searchingAt 0 headerBytes).bufLen ∧
    memRead (searchingAt 0 headerBytes).buf 0 4 = some [0xFF#8, 0xFB#8, 0x14#8, 0x00#8] ∧
    decodeBytes [0xFF#8, 0xFB#8, 0x14#8, 0x00#8] =
      .ok (.br1Sr1 ⟨3#2, 1#2, true, false, false, 0#2, 0#2, false, false, 0#2⟩, []) ∧
    syncBytes 0xFF#8 0xFB#8 = true := by decide

/-- A readable state for each row of the table: at the limit, at the end, sync, no sync, the three
outcomes of a candidate, a record, the end. -/
theorem witness_TransitionTable :
    State.Readable { searchingZeros 0 4 with limitEn := true } ∧ (searchingZeros 1 4).Readable ∧
    (searchingAt 0 headerBytes).Readable ∧ (searchingZeros 0 4).Readable ∧
    (candidate 7 0xFFFBF000#32 99).Readable ∧ (candidate 10 0xFFFB1400#32 105).Readable ∧
    (candidate 10 0xFFFB1400#32 106).Readable ∧ presenting.Readable ∧ State.reset.Readable := by
  unfold State.Readable; decide

theorem witness_LimitEndsTheScan :
    (State.st { searchingZeros 0 192 with limitEn := true } = .searching ∧
      State.maxFrames { searchingZeros 0 192 with limitEn := true } ≤ 0) ∧
    (StartOperands.limitEn ⟨0, 192, true, 0⟩ = true ∧
      StartOperands.maxFrames ⟨0, 192, true, 0⟩ = 0) := by decide

/-- The empty buffer, three bytes, a cursor at the end and one beyond it. -/
theorem witness_EndOfBufferEndsTheScan :
    (searchingZeros 0 0).st = .searching ∧ (searchingZeros 0 0).limitEn = false ∧
    (searchingZeros 0 0).bufLen < 0 + 4 ∧ (searchingZeros 0 3).bufLen < 0 + 4 ∧
    (searchingZeros 192 192).bufLen < 192 + 4 ∧ (searchingZeros 500 192).bufLen < 500 + 4 := by decide

theorem witness_SyncLatchesTheCandidate :
    (searchingAt 0 headerBytes).st = .searching ∧ (searchingAt 0 headerBytes).limitEn = false ∧
    (searchingAt 0 headerBytes).bufLen ≤ (searchingAt 0 headerBytes).buf.len ∧
    0 + 4 ≤ (searchingAt 0 headerBytes).bufLen ∧
    syncB (searchingAt 0 headerBytes).buf 0 = some true := by decide

theorem witness_NoSyncAdvancesOneByte :
    (searchingZeros 188 192).st = .searching ∧ (searchingZeros 188 192).limitEn = false ∧
    188 + 4 ≤ (searchingZeros 188 192).bufLen ∧
    syncB (searchingZeros 188 192).buf 188 = some false := by decide

theorem witness_WaitingStatesStay :
    presenting.SeqTurn ∧ presenting.st = .frameEmitted ∧ State.reset.SeqTurn ∧
    State.reset.st = .exhausted := ⟨.inl rfl, rfl, .inl rfl, rfl⟩

/-- Another buffer that agrees on the bytes read and on no other. -/
theorem witness_ReadsStayInsideAndAreAllThatCounts :
    3 ∈ seqReads (searchingAt 0 headerBytes) ∧
    (∀ a ∈ seqReads (searchingAt 0 (headerBytes ++ [0#8])),
      (Buffer.ofBytes (headerBytes ++ [1#8])).read a =
        (searchingAt 0 (headerBytes ++ [0#8])).buf.read a) ∧
    (Buffer.ofBytes (headerBytes ++ [1#8])).read 4 ≠
      (searchingAt 0 (headerBytes ++ [0#8])).buf.read 4 := by decide

theorem witness_ResetSetsEveryRegister :
    State.hostEvents { presenting with hostEvents := [.command .reset] } = .command .reset :: [] :=
  rfl

/-- A `bl` of the loaded buffer's whole length. -/
theorem witness_StartBeginsAScan :
    State.hostEvents { presenting with hostEvents := [.command (.start ⟨5, 1451, true, 3⟩)] } =
      .command (.start ⟨5, 1451, true, 3⟩) :: [] ∧ 1451 ≤ presenting.loaded.len := by decide

theorem witness_PullOnlyTakesAPresentedRecord :
    State.hostEvents { presenting with hostEvents := [.command .pull] } = .command .pull :: [] ∧
    State.st { presenting with hostEvents := [.command .pull] } = .frameEmitted ∧
    State.st { State.reset with hostEvents := [.command .pull] } ≠ .frameEmitted := by decide

theorem witness_ResetWinsOverStart :
    State.hostEvents { presenting with hostEvents := [.command (.resetWithStart ⟨0, 9, true, 1⟩)] } =
      .command (.resetWithStart ⟨0, 9, true, 1⟩) :: [] ∧
    State.hostEvents { presenting with hostEvents := [.command .reset] } = .command .reset :: [] :=
  ⟨rfl, rfl⟩

theorem witness_LoadedBufferIsTakenByTheNextStart :
    State.hostEvents { presenting with hostEvents := [.loadBuffer headerBytes] } =
      .loadBuffer headerBytes :: [] ∧
    State.hostEvents
      { presenting with
        hostEvents := [.loadBuffer headerBytes, .command (.start ⟨0, 4, false, 0⟩)] } =
      .loadBuffer headerBytes :: .command (.start ⟨0, 4, false, 0⟩) :: [] ∧
    4 ≤ headerBytes.length := by decide

/-- A Start that faults and one that does not; a state of the invariant where a step faults; a read
that faults and one that does not. -/
theorem witness_UnreadableBufferHasNoMove :
    (presenting.loaded.len < 1452 ∧ ¬ presenting.loaded.len < 1451) ∧
    (State.Inv
        { candidate 10 0xFFFB1400#32 106 with
          hostEvents := [.command (.start ⟨0, 1452, false, 0⟩)] } ∧
      step
        { candidate 10 0xFFFB1400#32 106 with
          hostEvents := [.command (.start ⟨0, 1452, false, 0⟩)] } = .fault .bufLenBeyondBuffer) ∧
    State.st { searchingZeros 0 4 with buf := ⟨1, []⟩ } = .searching ∧
    1 ∈ seqReads { searchingZeros 0 4 with buf := ⟨1, []⟩ } ∧
    (State.buf { searchingZeros 0 4 with buf := ⟨1, []⟩ }).read 1 = none ∧
    nextOf (seqStep (searchingZeros 0 4)) ≠ none :=
  ⟨by decide, ⟨⟨by decide, by decide, by unfold State.Readable; decide, by decide,
    fun h => absurd h (by decide), .inl rfl, by decide, by decide, by decide, by decide,
    by decide⟩, rfl⟩, by decide⟩

/-- SEQ's step, the host loading a buffer, and a Start. -/
theorem witness_BufferIsNeverWritten :
    ((∃ t, step (searchingAt 0 headerBytes) = .next t) ∧
      (∀ o rest, (searchingAt 0 headerBytes).hostEvents ≠ .command (.start o) :: rest) ∧
      ∀ bytes rest, (searchingAt 0 headerBytes).hostEvents ≠ .loadBuffer bytes :: rest) ∧
    (∃ t, step { presenting with hostEvents := [.loadBuffer headerBytes] } = .next t) ∧
    ∃ t, step { presenting with hostEvents := [.command (.start ⟨5, 1451, true, 3⟩)] } = .next t :=
  ⟨⟨⟨_, rfl⟩, by simp [searchingAt, State.reset]⟩, ⟨_, rfl⟩, _, rfl⟩

theorem witness_ConfigurationIsLatchedAtStart :
    (∃ t, step presenting = .next t) ∧
    (∀ o rest, presenting.hostEvents ≠ .command (.start o) :: rest) ∧
    (∀ rest, presenting.hostEvents ≠ .command .reset :: rest) ∧
    ∀ o rest, presenting.hostEvents ≠ .command (.resetWithStart o) :: rest :=
  ⟨⟨_, rfl⟩, by simp [presenting, candidate, State.reset]⟩

theorem witness_EndStatusByStateAndCount :
    presenting.st ≠ .exhausted ∧
    (State.st { State.reset with frameCount := 1 } = .exhausted ∧
      0 < State.frameCount { State.reset with frameCount := 1 }) ∧
    (State.reset.st = .exhausted ∧ State.reset.frameCount = 0) ∧
    (nextOf (seqStep { searchingZeros 0 9 with limitEn := true, maxFrames := 1, frameCount := 1 })).map
      (·.limitHit) = some true := by decide

/-- A HeaderFound state that meets the invariant. -/
theorem witness_inv_candidate : (candidate 10 0xFFFB1400#32 106).Inv where
  bufCanonical := by decide
  loadedCanonical := by decide
  readable := by unfold State.Readable; decide
  candidate := by decide
  presented := fun h => absurd h (by decide)
  record := .inl rfl
  bounded := by decide
  counted := by decide
  withinLimit := by decide
  limitOpen := by decide
  limitSeen := by decide

/-- A FrameEmitted state that meets the invariant, at the limit. -/
theorem witness_inv_presenting :
    State.Inv { presenting with limitEn := true, maxFrames := 1 } where
  bufCanonical := by decide
  loadedCanonical := by decide
  readable := by unfold State.Readable; decide
  candidate := by decide
  presented := fun _ => ⟨⟨⟨_, rfl⟩, by decide, by decide⟩, by decide⟩
  record := .inr ⟨⟨_, rfl⟩, by decide, by decide⟩
  bounded := by decide
  counted := by decide
  withinLimit := by decide
  limitOpen := by decide
  limitSeen := by decide

/-- A Searching state whose cursor Start put beyond the buffer. -/
theorem witness_inv_beyond :
    State.Inv (State.start (searchingZeros 0 192) ⟨500, 192, true, 0⟩) where
  bufCanonical := by decide
  loadedCanonical := by decide
  readable := by unfold State.Readable; decide
  candidate := by decide
  presented := fun h => absurd h (by decide)
  record := .inl rfl
  bounded := by decide
  counted := by decide
  withinLimit := by decide
  limitOpen := by decide
  limitSeen := by decide

theorem witness_EveryEventKeepsTheInvariant :
    ((candidate 10 0xFFFB1400#32 106).Inv ∧
      ∃ t, step (candidate 10 0xFFFB1400#32 106) = .next t) ∧
    (State.Inv { presenting with limitEn := true, maxFrames := 1 } ∧
      ∃ t, step { presenting with limitEn := true, maxFrames := 1 } = .next t) ∧
    (State.Inv (State.start (searchingZeros 0 192) ⟨500, 192, true, 0⟩) ∧
      ∃ t, step (State.start (searchingZeros 0 192) ⟨500, 192, true, 0⟩) = .next t) :=
  ⟨⟨witness_inv_candidate, _, rfl⟩, ⟨witness_inv_presenting, _, rfl⟩, ⟨witness_inv_beyond, _, rfl⟩⟩

theorem witness_OffsetsNeverOutgrowTheirWidth :
    12 ≤ 12 ∧ (candidate 10 0xFFFB1400#32 106).Inv ∧
    State.Fits 12 (candidate 10 0xFFFB1400#32 106) ∧
    State.NextEventFits 12 (candidate 10 0xFFFB1400#32 106) ∧
    (∃ t, step (candidate 10 0xFFFB1400#32 106) = .next t) ∧
    StartOperands.Fits 12 ⟨4095, 4095, true, 4095⟩ :=
  ⟨by decide, witness_inv_candidate, (by constructor <;> decide),
    (by simp [State.NextEventFits, candidate, State.reset]), ⟨_, rfl⟩,
    (by unfold StartOperands.Fits; decide)⟩

/-- One step for each of the first four clauses. -/
theorem witness_CursorGrowsBetweenSearches :
    (candidate 10 0xFFFB1400#32 106).Inv ∧
    (nextOf (seqStep (searchingZeros 188 192))).map (·.st) = some .searching ∧
    (nextOf (seqStep (searchingAt 0 headerBytes))).map (·.st) = some .headerFound ∧
    (nextOf (seqStep (candidate 10 0xFFFB1400#32 105))).map (·.st) = some .searching ∧
    (nextOf (seqStep (candidate 10 0xFFFB1400#32 106))).map (·.st) = some .frameEmitted :=
  ⟨witness_inv_candidate, by decide⟩

theorem witness_ScanEndsWithinItsBound :
    (searchingAt 0 headerBytes).st = .searching ∧ (searchingAt 0 headerBytes).Readable ∧
    presenting.st = .frameEmitted :=
  ⟨rfl, by unfold State.Readable; decide, rfl⟩

/-- The premises, and a run that is over. -/
theorem witness_ScanPresentsExactlyTheFrames :
    (searchingAt 0 headerBytes).st = .searching ∧ (searchingAt 0 headerBytes).Readable ∧
    (searchingAt 0 headerBytes).limitHit = false ∧
    (scanRun [false, false, false] (searchingAt 0 headerBytes)).2.st = .exhausted :=
  ⟨rfl, by unfold State.Readable; decide, rfl, by decide⟩

/-- Two Starts whose runs present a record: a readable buffer, with the limit off and with it on. -/
theorem witness_FramesOfAScanAreOrderedAndFit :
    State.Readable ((candidate 0 0xFFFB1400#32 96).start ⟨0, 96, false, 0⟩) ∧
    (scanRun [false, false] ((candidate 0 0xFFFB1400#32 96).start ⟨0, 96, false, 0⟩)).1 =
      [⟨0xFFFB1400#32, 0, 96#11⟩] ∧
    (scanRun [false, false] ((candidate 0 0xFFFB1400#32 96).start ⟨0, 96, true, 1⟩)).1 =
      [⟨0xFFFB1400#32, 0, 96#11⟩] :=
  ⟨by unfold State.Readable; decide, by decide, by decide⟩

theorem witness_ScansAreIndependentOfThePast :
    presenting.loaded = State.loaded { State.reset with loaded := presenting.loaded } ∧
    presenting.buf ≠ State.buf { State.reset with loaded := presenting.loaded } ∧
    presenting.outFrame ≠ State.outFrame { State.reset with loaded := presenting.loaded } := by
  decide


end Sys2Proof.Tests
end

section
/-!
The family of 10_state.md: Start's effect, and that every event keeps `State.Inv`. The invariant is
proved once for each named update of the state; the laws of `Sys2Proof/Laws/Ops.lean` then say which
update an event is.
-/

namespace Sys2Proof.Machine

/-! ## The word `FETCH32` reads and the two bytes `SYNC.B` reads -/

/-- The two forms of the sync test agree (41_sync_and_length.md R180, R181): bits 31:21 are the
first byte and the three high bits of the second. -/
theorem syncW_assemble (b0 b1 b2 b3 : Byte) : syncW (assemble b0 b1 b2 b3) = syncBytes b0 b1 := by
  have hb0 := b0.isLt
  have hb1 := b1.isLt
  have hb2 := b2.isLt
  have hb3 := b3.isLt
  have hw := assemble_toNat b0 b1 b2 b3
  rw [Bool.eq_iff_iff]
  simp only [syncW, syncBytes, Bool.and_eq_true, beq_iff_eq, ← BitVec.toNat_inj, xSync_toNat,
    BitVec.extractLsb'_toNat, Nat.shiftRight_eq_div_pow, BitVec.toNat_ofNat]
  omega

/-- Where a word can be fetched, the sync test reads its sync field. -/
theorem syncB_of_fetch32 {b : Buffer} {a : Nat} {w : Word} (h : fetch32 b a = some w) :
    syncB b a = some (syncW w) := by
  rw [fetch32_eq] at h
  split at h
  · rename_i hroom
    injection h with h
    rw [syncB_eq, if_pos (by omega), ← h, syncW_assemble]
  · simp at h

/-! ## SEQ's step in HeaderFound for every class at once (43_sequencer.md R308) -/

/-- The length `DECODE_LEN` gives a word with good sync, by the three fields it depends on. -/
def lengthByIndices (bri : BitVec 4) (sri : BitVec 2) (padding : Bool) : Except HeaderError Nat :=
  if bri = 15#4 then .error .reservedBitrate
  else if sri = 3#2 then .error .reservedSampleRate
  else
    match lookupBitrate bri, lookupSampleRate sri with
    | .ok (free, kbps), .ok hz => frameLength kbps free hz padding
    | .error k, _ => .error k
    | .ok _, .error k => .error k

/-- The length part of `DECODE_LEN` of a word that decodes is `FLEN` of its header. -/
theorem decodeLen_snd_of_ok {w : Word} {h : FrameHeader} (hd : decodeHeader w = .ok h) :
    (decodeLen w).map Prod.snd = flen h := by
  cases hl : flen h <;> simp [decodeLen, hd, hl, Except.map]

theorem decodeLen_snd_of_error {w : Word} {k : HeaderError} (hd : decodeHeader w = .error k) :
    (decodeLen w).map Prod.snd = .error k := by
  simp [decodeLen, hd, Except.map]

theorem decodeLen_snd_of_sync {w : Word} (hs : xSync w = Config.syncValue) :
    (decodeLen w).map Prod.snd = lengthByIndices (xBridx w) (xSridx w) (xPad w) := by
  rcases decodeHeader_cases w with ⟨hbad, -⟩ | ⟨-, hb, hd⟩ | ⟨-, hb, hr, hd⟩ |
    ⟨-, hb, hr, h, free, kbps, hz, hd, hk, hh, rfl, rfl, rfl, hp⟩
  · exact absurd hs hbad
  · simp [decodeLen_snd_of_error hd, lengthByIndices, hb]
  · simp [decodeLen_snd_of_error hd, lengthByIndices, hb, hr]
  · simp [decodeLen_snd_of_ok hd, lengthByIndices, hb, hr, hk, hh, flen, hp]

/-- Each of the 61 classes with good sync has the outcome of the length its indices give. -/
theorem exec_decodeSynced (bri : BitVec 4) (sri : BitVec 2) (f : OperandBits) (s : State) :
    exec (decodeSynced bri sri f) s = headerLength (lengthByIndices bri sri f.padding) s := by
  rcases bitrateIndex_cases bri with rfl | rfl | rfl | rfl | rfl | rfl | rfl | rfl | rfl | rfl |
    rfl | rfl | rfl | rfl | rfl | rfl <;>
    rcases sampleRateIndex_cases sri with rfl | rfl | rfl | rfl <;> rfl

/-- Each of the eleven BadSync classes is rejected. -/
theorem exec_decodeBadSync (w : Word) (s : State) :
    exec (decodeBadSync w) s = headerError .badSync s := by
  unfold decodeBadSync
  iterate 10
    refine iteInduction (motive := fun i => exec i s = headerError .badSync s)
      (fun _ => rfl) (fun _ => ?_)
  rfl

/-- Executing the class of a word is the outcome of the length `DECODE_LEN` gives the word. -/
theorem exec_decode (w : Word) (s : State) :
    exec (decode w) s = headerLength ((decodeLen w).map Prod.snd) s := by
  by_cases hs : xSync w = Config.syncValue
  · rw [decode, if_pos hs, exec_decodeSynced, decodeLen_snd_of_sync hs]
    rfl
  · have hd : decodeHeader w = .error .badSync := if_pos hs
    rw [decode, if_neg hs, exec_decodeBadSync, decodeLen_snd_of_error hd]
    rfl

/-- A candidate is rejected, or emitted with the length `DECODE_LEN` gives its word. -/
theorem exec_decode_cases (w : Word) (s : State) :
    exec (decode w) s = .next s.resync ∨
      ∃ h l, decodeLen w = .ok (h, l) ∧ 96 ≤ l ∧ l ≤ 1441 ∧ s.hdrStart + l ≤ s.bufLen ∧
        exec (decode w) s = .next (s.emit l) := by
  rw [exec_decode]
  rcases headerLength_cases ((decodeLen w).map Prod.snd) s with hrej | ⟨l, hl, hl0, hfit, hemit⟩
  · exact .inl hrej
  · refine .inr ?_
    rcases decodeLen_cases w with ⟨k, -, he⟩ | ⟨h, l', -, -, he, hb⟩
    · simp [he, Except.map] at hl
    · obtain rfl : l' = l := by simpa [he, Except.map] using hl
      obtain ⟨hlo, hhi⟩ := hb.resolve_left hl0
      exact ⟨h, l', he, hlo, hhi, hfit, hemit⟩

/-! ## The invariant, one update of the state at a time -/

section events
variable {s t : State}

/-- The limit has ended no scan that still runs. -/
theorem State.Inv.limitHit_eq_false (hi : s.Inv) (h : s.st ≠ .exhausted) : s.limitHit = false :=
  Bool.eq_false_iff.mpr fun hl => h (hi.limitSeen hl).1

/-- The condition of `S.LIMIT` as a proposition. -/
theorem State.limitReached_iff (s : State) :
    s.limitReached = true ↔ s.limitEn = true ∧ s.maxFrames ≤ s.frameCount := by
  simp [State.limitReached]

/-- No field of the invariant is about the host's coming events. -/
theorem State.Inv.withEvents (hi : s.Inv) (rest : List HostEvent) :
    State.Inv { s with hostEvents := rest } :=
  { hi with }

theorem State.Inv.stopAtLimit (hi : s.Inv) (hl : s.limitReached = true) : s.stopAtLimit.Inv :=
  { hi with
    candidate := nofun
    presented := nofun
    limitOpen := nofun
    limitSeen := fun _ => ⟨rfl, s.limitReached_iff.mp hl⟩ }

theorem State.Inv.stopAtEnd (hi : s.Inv) : s.stopAtEnd.Inv :=
  { hi with
    candidate := nofun
    presented := nofun
    limitOpen := nofun
    limitSeen := fun hl => ⟨rfl, (hi.limitSeen hl).2⟩ }

theorem State.Inv.advance (hi : s.Inv) (hst : s.st = .searching)
    (hroom : s.cursor + 4 ≤ s.bufLen) : s.advance.Inv :=
  { hi with
    candidate := by simp [hst]
    presented := by simp [hst]
    bounded := .inl (by simp only [State.advance_cursor, State.advance_bufLen]; omega)
    counted := Nat.le_succ_of_le hi.counted }

/-- The latched word has good sync because the sync test passed at the offset it comes from. -/
theorem State.Inv.found {w : Word} (hi : s.Inv) (hst : s.st = .searching)
    (hlimit : s.limitReached = false) (hroom : s.cursor + 4 ≤ s.bufLen)
    (hsync : syncB s.buf s.cursor = some true) (hw : fetch32 s.buf s.cursor = some w) :
    (s.found w).Inv :=
  have hgood : syncW w = true := by simpa [hsync] using (syncB_of_fetch32 hw).symm
  { hi with
    candidate := fun _ => ⟨rfl, hroom, hw, hgood⟩
    presented := nofun
    limitOpen := fun _ hen => Nat.not_le.mp fun hmax =>
      Bool.eq_false_iff.mp hlimit (s.limitReached_iff.mpr ⟨hen, hmax⟩)
    limitSeen := by simp [hi.limitHit_eq_false (by simp [hst])] }

theorem State.Inv.resync (hi : s.Inv) (hst : s.st = .headerFound) : s.resync.Inv := by
  obtain ⟨hcur, hroom, -, -⟩ := hi.candidate hst
  have hcount := hi.counted
  exact { hi with
    candidate := nofun
    presented := nofun
    bounded := .inl (by simp only [State.resync_cursor, State.resync_bufLen]; omega)
    counted := by
      simp only [State.resync_cursor, State.resync_cfgStartOffset, State.resync_frameCount]; omega
    limitOpen := nofun
    limitSeen := by simp [hi.limitHit_eq_false (by simp [hst])] }

/-- The record an emission latches is consistent: its length fits the register's 11 bits. -/
theorem emitted_consistent {w : Word} {a l : Nat} {h : FrameHeader}
    (hd : decodeLen w = .ok (h, l)) (hlo : 96 ≤ l) (hhi : l ≤ 1441) :
    FrameRecord.Consistent ⟨w, a, BitVec.ofNat 11 l⟩ := by
  simp only [FrameRecord.Consistent, ofNat_length (decodeLen_length_lt hd)]
  exact ⟨⟨h, hd⟩, hlo, hhi⟩

/-- The frame fits, is at least 96 bytes long and was looked for below the limit, so the cursor and
the count stay in their bounds. -/
theorem State.Inv.emit {h : FrameHeader} {l : Nat} (hi : s.Inv) (hst : s.st = .headerFound)
    (hd : decodeLen s.hdrWord = .ok (h, l)) (hlo : 96 ≤ l) (hhi : l ≤ 1441)
    (hfit : s.hdrStart + l ≤ s.bufLen) : (s.emit l).Inv := by
  obtain ⟨hcur, -, hword, -⟩ := hi.candidate hst
  have hcount := hi.counted
  have hrecord := emitted_consistent (a := s.hdrStart) hd hlo hhi
  exact { hi with
    candidate := nofun
    presented := fun _ =>
      ⟨hrecord, hword, by simp [ofNat_length (decodeLen_length_lt hd)], hfit⟩
    record := .inr hrecord
    bounded := .inl hfit
    counted := by
      simp only [State.emit_cursor, State.emit_cfgStartOffset, State.emit_frameCount]; omega
    withinLimit := hi.limitOpen hst
    limitOpen := nofun
    limitSeen := by simp [hi.limitHit_eq_false (by simp [hst])] }

theorem State.Inv.start {o : StartOperands} (hi : s.Inv) (hlen : o.bufLen ≤ s.loaded.len) :
    (s.start o).Inv :=
  { hi with
    bufCanonical := hi.loadedCanonical
    readable := hlen
    candidate := nofun
    presented := nofun
    bounded := .inr rfl
    counted := Nat.le_refl _
    withinLimit := fun _ => Nat.zero_le _
    limitOpen := nofun
    limitSeen := nofun }

theorem State.Inv.pull (hi : s.Inv) : s.pull.Inv := by
  by_cases hst : s.st = .frameEmitted
  · rw [State.pull_st_frameEmitted s hst]
    exact { hi with
      candidate := nofun
      presented := nofun
      limitOpen := nofun
      limitSeen := by simp [hi.limitHit_eq_false (by simp [hst])] }
  · rwa [State.pull_other s hst]

theorem State.Inv.resetRegisters (hi : s.Inv) : s.resetRegisters.Inv where
  bufCanonical := hi.bufCanonical
  loadedCanonical := hi.loadedCanonical
  readable := Nat.zero_le _
  candidate := nofun
  presented := nofun
  record := .inl rfl
  bounded := .inl (Nat.le_refl 0)
  counted := Nat.le_refl 0
  withinLimit := nofun
  limitOpen := nofun
  limitSeen := nofun

theorem State.Inv.load (hi : s.Inv) (bytes : List Byte) : (s.load bytes).Inv :=
  { hi with loadedCanonical := Buffer.ofBytes_wf bytes }

/-! ## The invariant, one kind of event at a time -/

theorem searchStep_keeps_inv (hi : s.Inv) (hst : s.st = .searching)
    (h : searchStep s = .next t) : t.Inv := by
  rcases searchStep_cases s with ⟨hl, he⟩ | ⟨-, -, he⟩ | ⟨-, hroom, -, he⟩ |
    ⟨hl, hroom, hsync, w, hw, he⟩ | ⟨-, -, -, he⟩ <;> rw [he] at h <;> cases h
  · exact hi.stopAtLimit hl
  · exact hi.stopAtEnd
  · exact hi.advance hst hroom
  · exact hi.found hst hl hroom hsync hw

theorem exec_decode_keeps_inv (hi : s.Inv) (hst : s.st = .headerFound)
    (h : exec (decode s.hdrWord) s = .next t) : t.Inv := by
  rcases exec_decode_cases s.hdrWord s with he | ⟨_, l, hd, hlo, hhi, hfit, he⟩ <;>
    rw [he] at h <;> cases h
  · exact hi.resync hst
  · exact hi.emit hst hd hlo hhi hfit

theorem seqStep_keeps_inv (hi : s.Inv) (h : seqStep s = .next t) : t.Inv := by
  unfold seqStep at h
  split at h
  next hst => exact searchStep_keeps_inv hi hst h
  next hst => exact exec_decode_keeps_inv hi hst h
  next => cases h; exact hi
  next => cases h; exact hi

theorem hostCommand_keeps_inv {c : HostCommand} (hi : s.Inv) (h : hostCommand c s = .next t) :
    t.Inv := by
  rcases hostCommand_cases c s with ⟨o, -, -, he⟩ | ⟨o, -, hlen, he⟩ | ⟨-, he⟩ | ⟨-, he⟩ <;>
    rw [he] at h <;> cases h
  · exact hi.start hlen
  · exact hi.pull
  · exact hi.resetRegisters

theorem step_keeps_inv (hi : s.Inv) (h : step s = .next t) : t.Inv := by
  rcases step_cases s with ⟨-, he⟩ | ⟨rest, -, he⟩ | ⟨c, rest, -, he⟩ | ⟨bytes, rest, -, he⟩ <;>
    rw [he] at h
  · exact seqStep_keeps_inv hi h
  · exact seqStep_keeps_inv (hi.withEvents rest) h
  · exact hostCommand_keeps_inv (hi.withEvents rest) h
  · cases h; exact (hi.withEvents rest).load bytes

end events

/-- Settles O54: an event is one of the named updates of the state, and each keeps the invariant. -/
theorem everyEventKeepsTheInvariant : Obligations.EveryEventKeepsTheInvariant :=
  fun _ _ => step_keeps_inv

/-! ## Start (43_sequencer.md R293, R294) -/

/-- A Start with a `bl` within the loaded buffer begins a scan in every state. -/
theorem step_start {s : State} {o : StartOperands} {rest : List HostEvent}
    (he : s.hostEvents = .command (.start o) :: rest) (hlen : o.bufLen ≤ s.loaded.len) :
    step s = .next (State.start { s with hostEvents := rest } o) := by
  simp [step, he, hostCommand, startCommand, hlen]

/-- Settles O45: the next state is `State.start`, whose writes are the listed ones. -/
theorem startBeginsAScan : Obligations.StartBeginsAScan :=
  fun _ _ _ he hlen => ⟨_, step_start he hlen, rfl, rfl, rfl⟩

end Sys2Proof.Machine
end

section
/-!
The family of 20_memory.md: no event writes a buffer, SEQ reads inside `buf_len` only, and its step
depends on no byte of the buffer but those it reads.
-/

namespace Sys2Proof.Machine

open Sys2Proof.Claims

section memory
variable {s t : State}

/-! ## SEQ's step by the state it is in (43_sequencer.md R299) -/

theorem seqState_cases (s : State) :
    s.st = .searching ∨ s.st = .headerFound ∨ s.st = .frameEmitted ∨ s.st = .exhausted := by
  cases s.st <;> simp

theorem seqStep_of_searching (hst : s.st = .searching) : seqStep s = searchStep s := by
  simp [seqStep, hst]

theorem seqStep_of_headerFound (hst : s.st = .headerFound) :
    seqStep s = exec (decode s.hdrWord) s := by
  simp [seqStep, hst]

theorem seqStep_of_waiting (hst : s.st = .frameEmitted ∨ s.st = .exhausted) :
    seqStep s = .next s := by
  rcases hst with hst | hst <;> simp [seqStep, hst]

/-! ## What each event does to the two buffers (20_memory.md R61) -/

theorem searchStep_keeps_buffers (h : searchStep s = .next t) :
    t.buf = s.buf ∧ t.loaded = s.loaded := by
  rcases searchStep_cases s with ⟨-, he⟩ | ⟨-, -, he⟩ | ⟨-, -, -, he⟩ | ⟨-, -, -, w, -, he⟩ |
    ⟨-, -, -, he⟩ <;> rw [he] at h <;> cases h <;> exact ⟨rfl, rfl⟩

theorem exec_decode_keeps_buffers {w : Word} (h : exec (decode w) s = .next t) :
    t.buf = s.buf ∧ t.loaded = s.loaded := by
  rcases exec_decode_cases w s with he | ⟨-, l, -, -, -, -, he⟩ <;>
    rw [he] at h <;> cases h <;> exact ⟨rfl, rfl⟩

theorem seqStep_keeps_buffers (h : seqStep s = .next t) : t.buf = s.buf ∧ t.loaded = s.loaded := by
  rcases seqState_cases s with hst | hst | hst
  · exact searchStep_keeps_buffers (seqStep_of_searching hst ▸ h)
  · exact exec_decode_keeps_buffers (seqStep_of_headerFound hst ▸ h)
  · rw [seqStep_of_waiting hst] at h
    cases h; exact ⟨rfl, rfl⟩

/-- A command leaves the loaded buffer, and a Start alone changes which one the scan reads. -/
theorem hostCommand_buffers {c : HostCommand} (h : hostCommand c s = .next t) :
    t.loaded = s.loaded ∧ ((∃ o, c = .start o) ∧ t.buf = s.loaded ∨
      (∀ o, c ≠ .start o) ∧ t.buf = s.buf) := by
  rcases hostCommand_cases c s with ⟨o, rfl, -, he⟩ | ⟨o, rfl, -, he⟩ | ⟨rfl, he⟩ |
    ⟨hc, he⟩ <;> rw [he] at h <;> cases h
  · exact ⟨rfl, .inl ⟨⟨o, rfl⟩, rfl⟩⟩
  · exact ⟨s.pull_loaded, .inr ⟨nofun, s.pull_buf⟩⟩
  · exact ⟨rfl, .inr ⟨by rcases hc with rfl | ⟨o, rfl⟩ <;> exact nofun, rfl⟩⟩

theorem step_keeps_buf (hstart : ∀ o rest, s.hostEvents ≠ .command (.start o) :: rest)
    (h : step s = .next t) : t.buf = s.buf := by
  rcases step_cases s with ⟨-, he⟩ | ⟨rest, -, he⟩ | ⟨c, rest, hev, he⟩ | ⟨bytes, rest, -, he⟩ <;>
    rw [he] at h
  · exact (seqStep_keeps_buffers h).1
  · exact (seqStep_keeps_buffers h).1
  · rcases (hostCommand_buffers h).2 with ⟨⟨o, rfl⟩, -⟩ | ⟨-, hbuf⟩
    · exact absurd hev (hstart o rest)
    · exact hbuf
  · cases h; rfl

theorem step_start_takes_loaded {o : StartOperands} {rest : List HostEvent}
    (hev : s.hostEvents = .command (.start o) :: rest) (h : step s = .next t) :
    t.buf = s.loaded := by
  have hc : hostCommand (.start o) { s with hostEvents := rest } = .next t := by
    rw [← h]; simp [step, hev]
  rcases (hostCommand_buffers hc).2 with ⟨-, hbuf⟩ | ⟨hno, -⟩
  · exact hbuf
  · exact absurd rfl (hno o)

theorem step_keeps_loaded (hload : ∀ bytes rest, s.hostEvents ≠ .loadBuffer bytes :: rest)
    (h : step s = .next t) : t.loaded = s.loaded := by
  rcases step_cases s with ⟨-, he⟩ | ⟨rest, -, he⟩ | ⟨c, rest, -, he⟩ |
    ⟨bytes, rest, hev, he⟩ <;> rw [he] at h
  · exact (seqStep_keeps_buffers h).2
  · exact (seqStep_keeps_buffers h).2
  · exact (hostCommand_buffers h).1
  · exact absurd hev (hload bytes rest)

/-! ## What SEQ reads (20_memory.md R62, R67) -/

/-- Only a Searching step with room for a header reads, and it reads inside that header. -/
theorem mem_seqReads {a : Nat} (ha : a ∈ seqReads s) :
    s.cursor + 4 ≤ s.bufLen ∧ s.cursor ≤ a ∧ a < s.cursor + 4 := by
  unfold seqReads at ha
  split at ha
  next =>
    split at ha
    next => simp at ha
    next hgo =>
      simp only [Bool.or_eq_true, decide_eq_true_eq, not_or, Config.headerBytes] at hgo
      split at ha <;> simp only [List.mem_cons, List.not_mem_nil, or_false] at ha <;> omega
  all_goals simp at ha

/-- The offsets of a Searching step that goes on: the four of the header word when the sync test
passes, else the two of the sync test. -/
theorem seqReads_of_room (hst : s.st = .searching) (hl : s.limitReached = false)
    (hroom : s.cursor + 4 ≤ s.bufLen) :
    seqReads s = if syncB s.buf s.cursor = some true
      then [s.cursor, s.cursor + 1, s.cursor + 2, s.cursor + 3] else [s.cursor, s.cursor + 1] := by
  simp [seqReads, hst, hl, hroom]

/-! ## Buffers that agree on the offsets read -/

section agree
variable {b c : Buffer}

theorem memRead_congr {a n : Nat} (h : ∀ k, a ≤ k → k < a + n → b.read k = c.read k) :
    memRead b a n = memRead c a n := by
  induction n generalizing a with
  | zero => rfl
  | succ n ih =>
    have hhead : b.read a = c.read a := h a (by omega) (by omega)
    have htail : memRead b (a + 1) n = memRead c (a + 1) n :=
      ih fun k hlo hhi => h k (by omega) (by omega)
    simp only [memRead, hhead, htail]

theorem syncB_congr {a : Nat} (h : ∀ k, a ≤ k → k < a + 2 → b.read k = c.read k) :
    syncB b a = syncB c a := by
  simp only [syncB, memRead_congr h]

theorem fetch32_congr {a : Nat} (h : ∀ k, a ≤ k → k < a + 4 → b.read k = c.read k) :
    fetch32 b a = fetch32 c a := by
  simp only [fetch32, memRead_congr h]

/-- Both sync bytes are among the offsets of a Searching step that goes on. -/
theorem syncB_eq_of_agree (hst : s.st = .searching) (hl : s.limitReached = false)
    (hroom : s.cursor + 4 ≤ s.bufLen) (h : ∀ a ∈ seqReads s, b.read a = s.buf.read a) :
    syncB b s.cursor = syncB s.buf s.cursor := by
  rw [seqReads_of_room hst hl hroom] at h
  refine syncB_congr fun k hlo hhi => h k ?_
  have hk : k = s.cursor ∨ k = s.cursor + 1 := by omega
  split <;> rcases hk with rfl | rfl <;> simp

/-- Where the sync test passes, the header's four bytes are among the offsets read. -/
theorem fetch32_eq_of_agree (hst : s.st = .searching) (hl : s.limitReached = false)
    (hroom : s.cursor + 4 ≤ s.bufLen) (hsync : syncB s.buf s.cursor = some true)
    (h : ∀ a ∈ seqReads s, b.read a = s.buf.read a) :
    fetch32 b s.cursor = fetch32 s.buf s.cursor := by
  rw [seqReads_of_room hst hl hroom, if_pos hsync] at h
  refine fetch32_congr fun k hlo hhi => h k ?_
  have hk : k = s.cursor ∨ k = s.cursor + 1 ∨ k = s.cursor + 2 ∨ k = s.cursor + 3 := by omega
  simpa using hk

theorem searchStep_of_agree (hst : s.st = .searching)
    (h : ∀ a ∈ seqReads s, b.read a = s.buf.read a) :
    searchStep { s with buf := b } = withBuffer b (searchStep s) := by
  have hlimit : State.limitReached { s with buf := b } = s.limitReached := rfl
  cases hl : s.limitReached with
  | true => simp [searchStep, hlimit, hl, withBuffer, State.stopAtLimit]
  | false =>
    by_cases hend : s.bufLen < s.cursor + 4
    · simp [searchStep, hlimit, hl, hend, withBuffer, State.stopAtEnd]
    have hroom : s.cursor + 4 ≤ s.bufLen := by omega
    have hsame := syncB_eq_of_agree hst hl hroom h
    match hs : syncB s.buf s.cursor with
    | none => simp [searchStep, hlimit, hl, hend, hsame, hs, withBuffer]
    | some false => simp [searchStep, hlimit, hl, hend, hsame, hs, withBuffer, State.advance]
    | some true =>
      have hfetch := fetch32_eq_of_agree hst hl hroom hs h
      cases hf : fetch32 s.buf s.cursor <;>
        simp [searchStep, hlimit, hl, hend, hsame, hs, hfetch, hf, withBuffer, State.found]

/-- A candidate's outcome does not depend on the buffer: its word is latched. -/
theorem exec_decode_withBuffer (b : Buffer) (w : Word) (s : State) :
    exec (decode w) { s with buf := b } = withBuffer b (exec (decode w) s) := by
  rw [exec_decode, exec_decode]
  cases (decodeLen w).map Prod.snd with
  | error k => rfl
  | ok l =>
    by_cases hrej : l = 0 ∨ s.hdrStart + l > s.bufLen
    · simp only [headerLength, headerDecoded, if_pos hrej]; rfl
    · simp only [headerLength, headerDecoded, if_neg hrej]; rfl

theorem seqStep_of_agree (h : ∀ a ∈ seqReads s, b.read a = s.buf.read a) :
    seqStep { s with buf := b } = withBuffer b (seqStep s) := by
  rcases seqState_cases s with hst | hst | hst
  · rw [seqStep_of_searching hst, seqStep_of_searching (s := { s with buf := b }) hst]
    exact searchStep_of_agree hst h
  · rw [seqStep_of_headerFound hst, seqStep_of_headerFound (s := { s with buf := b }) hst]
    exact exec_decode_withBuffer b s.hdrWord s
  · rw [seqStep_of_waiting hst, seqStep_of_waiting (s := { s with buf := b }) hst]
    rfl

end agree

end memory

/-- Settles O42: a Searching step sees the buffer through `SYNC.B` and `FETCH32` alone, each on
offsets it lists, and no other step sees it. -/
theorem readsStayInsideAndAreAllThatCounts : Obligations.ReadsStayInsideAndAreAllThatCounts := by
  refine ⟨fun s a ha => ?_, fun s b => seqStep_of_agree⟩
  obtain ⟨hroom, -, hhi⟩ := mem_seqReads ha
  omega

/-- Settles O50: an equal buffer holds equal bytes, so the three facts about which buffer stands in
the next state are enough. -/
theorem bufferIsNeverWritten : Obligations.BufferIsNeverWritten := by
  intro s t h
  refine ⟨fun hstart => ?_, fun ⟨o, rest, hev⟩ => ?_, fun hload => ?_⟩
  · have hbuf := step_keeps_buf hstart h
    exact ⟨hbuf, fun a => by rw [hbuf]⟩
  · have hbuf := step_start_takes_loaded hev h
    exact ⟨hbuf, fun a => by rw [hbuf]⟩
  · have hloaded := step_keeps_loaded hload h
    exact ⟨hloaded, fun a => by rw [hloaded]⟩

end Sys2Proof.Machine
end

section
/-!
The family of 30_encoding.md: the decoder and the encoder are inverse, every word is in exactly one
row of the opcode table, and the thirteen fields by mask, by byte and by `HDR(...)`.
A word in a BadSync row is known by its highest zero bit and the bits below it, a word with good
sync by its two indices and operand bits.
-/

namespace Sys2Proof

open Sys2Proof.Claims

section encoding
variable {w : Word} {b rest : Nat} {p : Nat × (Nat → Instr)}

/-! ## The BadSync rows (30_encoding.md R111) -/

/-- The ones from bit `b` up to bit 31, as a multiple of `2 ^ b`. -/
theorem onesFrom_eq_mul (hb : b ≤ 32) : 2 ^ 32 - 2 ^ b = 2 ^ b * (2 ^ (32 - b) - 1) := by
  rw [Nat.mul_sub, ← pow_add, Nat.add_sub_cancel' hb, Nat.mul_one]

/-- A number with ones exactly from bit `b` up to bit 31. -/
theorem getLsbD_onesFrom (hb : b ≤ 32) (i : Nat) :
    (BitVec.ofNat 32 (2 ^ 32 - 2 ^ b)).getLsbD i = decide (b ≤ i ∧ i < 32) := by
  rw [BitVec.getLsbD_ofNat, onesFrom_eq_mul hb, Nat.testBit_two_pow_mul,
    Nat.testBit_two_pow_sub_one, Bool.eq_iff_iff]
  simp only [Bool.and_eq_true, decide_eq_true_eq]
  omega

/-- A BadSync row selects the words with a zero at its bit and ones above. -/
theorem badSyncRow_selects_iff_bits (hb : b < 32) :
    (badSyncRow b).selects w = true ↔
      w.getLsbD b = false ∧ ∀ i, b < i → i < 32 → w.getLsbD i = true := by
  have hbits (i : Nat) (hi : i < 32) :
      (w &&& (badSyncRow b).maskBits).getLsbD i = (badSyncRow b).matchBits.getLsbD i ↔
        (w.getLsbD i && decide (b ≤ i)) = decide (b < i) := by
    simp only [badSyncRow, BitVec.getLsbD_and, getLsbD_onesFrom hb.le, getLsbD_onesFrom hb, hi,
      and_true, Nat.succ_le_iff]
  rw [Row.selects, beq_iff_eq]
  constructor
  · intro h
    refine ⟨?_, fun i hlo hi => ?_⟩
    · simpa using (hbits b hb).1 (congrArg (·.getLsbD b) h)
    · simpa [hlo, hlo.le] using (hbits i hi).1 (congrArg (·.getLsbD i) h)
  · rintro ⟨hzero, hones⟩
    refine BitVec.eq_of_getLsbD_eq fun i hi => (hbits i hi).2 ?_
    rcases lt_trichotomy i b with hlt | rfl | hgt
    · simp [hlt.not_ge, hlt.le]
    · simp [hzero]
    · simp [hones i hgt hi, hgt, hgt.le]

/-- A word in a BadSync row is that row's ones with the word's low bits. -/
theorem ofNat_low_of_selects (hb : b < 32) (h : (badSyncRow b).selects w = true) :
    BitVec.ofNat 32 (2 ^ 32 - 2 ^ (b + 1) + w.toNat % 2 ^ b) = w := by
  have hhigh := Laws.and_highMask (hi := w.toNat / 2 ^ b) hb.le
    (Nat.mod_lt w.toNat (Nat.two_pow_pos b))
  rw [Nat.div_add_mod, BitVec.ofNat_toNat, BitVec.setWidth_eq, ← onesFrom_eq_mul hb.le] at hhigh
  have hmatch : BitVec.ofNat 32 (2 ^ 32 - 2 ^ (b + 1)) =
      BitVec.ofNat 32 (2 ^ b * (w.toNat / 2 ^ b)) := (beq_iff_eq.1 h).symm.trans hhigh
  rw [BitVec.ofNat_add, hmatch, ← BitVec.ofNat_add, Nat.div_add_mod, BitVec.ofNat_toNat,
    BitVec.setWidth_eq]

/-- A BadSync row's ones with low bits `rest` is in the row, and its low bits are `rest`. -/
theorem selects_ofNat_low (hb : b < 32) (hr : rest < 2 ^ b) :
    (badSyncRow b).selects (BitVec.ofNat 32 (2 ^ 32 - 2 ^ (b + 1) + rest)) = true ∧
      (BitVec.ofNat 32 (2 ^ 32 - 2 ^ (b + 1) + rest)).toNat % 2 ^ b = rest := by
  have hmul : 2 ^ 32 - 2 ^ (b + 1) = 2 ^ b * (2 ^ (32 - b) - 2) := by
    rw [Nat.mul_sub, ← pow_add, Nat.add_sub_cancel' hb.le, ← pow_succ]
  constructor
  · exact Laws.selects_badSync b rest _ hb.le hr hmul
      (congrArg (BitVec.ofNat 32) (onesFrom_eq_mul hb.le)) (congrArg (BitVec.ofNat 32) hmul)
  · rw [BitVec.toNat_ofNat, Nat.mod_mod_of_dvd _ (pow_dvd_pow 2 hb.le), hmul, Nat.mul_add_mod,
      Nat.mod_eq_of_lt hr]

/-- Two BadSync rows that select one word have one first zero bit. -/
theorem badSyncRow_selects_unique {c : Nat} (hb : b < 32) (hc : c < 32)
    (h : (badSyncRow b).selects w = true) (h' : (badSyncRow c).selects w = true) : b = c := by
  obtain ⟨hzero, hones⟩ := (badSyncRow_selects_iff_bits hb).1 h
  obtain ⟨hzero', hones'⟩ := (badSyncRow_selects_iff_bits hc).1 h'
  rcases lt_trichotomy b c with hlt | heq | hgt
  · simp [hones c hlt hc] at hzero'
  · exact heq
  · simp [hones' b hgt hb] at hzero

/-- The rows listed are those of bits 31 to 21. -/
theorem exists_mem_badSyncRows_iff : (∃ p ∈ badSyncRows, p.1 = b) ↔ 21 ≤ b ∧ b < 32 := by
  rw [← List.mem_map]
  constructor
  · exact (by decide : ∀ c ∈ badSyncRows.map Prod.fst, 21 ≤ c ∧ c < 32) b
  · rintro ⟨hlo, hhi⟩
    interval_cases b <;> decide

theorem bounds_of_mem_badSyncRows (hp : p ∈ badSyncRows) : 21 ≤ p.1 ∧ p.1 < 32 :=
  exists_mem_badSyncRows_iff.1 ⟨p, hp, rfl⟩

theorem lt_of_mem_badSyncRows (hp : p ∈ badSyncRows) : p.1 < 32 :=
  (bounds_of_mem_badSyncRows hp).2

/-- The sync field is all ones when each of its bits is one. -/
theorem xSync_eq_syncValue_iff :
    xSync w = Config.syncValue ↔ ∀ i, 21 ≤ i → i < 32 → w.getLsbD i = true := by
  have hones : ∀ i < 11, Config.syncValue.getLsbD i = true := by decide
  constructor
  · intro h i hlo hi
    have hbit := hones (i - 21) (by omega)
    rw [← h, xSync, BitVec.getLsbD_extractLsb', Nat.add_sub_cancel' hlo, Bool.and_eq_true] at hbit
    exact hbit.2
  · intro h
    refine BitVec.eq_of_getLsbD_eq fun i hi => ?_
    rw [hones i hi, xSync, BitVec.getLsbD_extractLsb', h (21 + i) (by omega) (by omega)]
    simp [hi]

/-- The words without sync are those of the BadSync rows: the highest zero bit is the row's. -/
theorem exists_badSyncRow_selects_iff :
    (∃ p ∈ badSyncRows, (badSyncRow p.1).selects w = true) ↔ xSync w ≠ Config.syncValue := by
  constructor
  · rintro ⟨p, hp, h⟩ hs
    obtain ⟨hlo, hhi⟩ := bounds_of_mem_badSyncRows hp
    obtain ⟨hzero, -⟩ := (badSyncRow_selects_iff_bits hhi).1 h
    simp [xSync_eq_syncValue_iff.1 hs p.1 hlo hhi] at hzero
  · intro hs
    obtain ⟨i, hlo, hi, hzero⟩ : ∃ i, 21 ≤ i ∧ i < 32 ∧ w.getLsbD i = false := by
      simpa [xSync_eq_syncValue_iff] using hs
    have hi31 : i ≤ 31 := Nat.le_of_lt_succ hi
    obtain ⟨c, hc⟩ : ∃ c, Nat.findGreatest (fun j => w.getLsbD j = false) 31 = c := ⟨_, rfl⟩
    have hic : i ≤ c := hc ▸ Nat.le_findGreatest hi31 hzero
    have hc32 : c < 32 := hc ▸ Nat.lt_succ_of_le (Nat.findGreatest_le 31)
    obtain ⟨p, hp, rfl⟩ := exists_mem_badSyncRows_iff.2 ⟨hlo.trans hic, hc32⟩
    refine ⟨p, hp, (badSyncRow_selects_iff_bits hc32).2 ⟨?_, fun j hj hj32 => ?_⟩⟩
    · exact hc ▸ Nat.findGreatest_spec (P := fun j => w.getLsbD j = false) hi31 hzero
    · exact Bool.eq_true_of_not_eq_false
        (Nat.findGreatest_is_greatest (hc ▸ hj) (Nat.le_of_lt_succ hj32))

/-! ## The two kinds of class -/

/-- What the table and the encoder say of a BadSync class. -/
theorem badSync_class (hp : p ∈ badSyncRows) (rest : Nat) :
    (p.2 rest).classFields = .badSync p.1 rest ∧ (p.2 rest).row = badSyncRow p.1 ∧
      (p.2 rest).wellFormed = decide (rest < 2 ^ p.1) := by
  simp only [badSyncRows, List.mem_cons, List.not_mem_nil, or_false] at hp
  rcases hp with rfl | rfl | rfl | rfl | rfl | rfl | rfl | rfl | rfl | rfl | rfl <;>
    exact ⟨rfl, rfl, rfl⟩

theorem row_badSync (hp : p ∈ badSyncRows) (rest : Nat) : (p.2 rest).row = badSyncRow p.1 :=
  (badSync_class hp rest).2.1

theorem wellFormed_badSync (hp : p ∈ badSyncRows) :
    (p.2 rest).wellFormed = true ↔ rest < 2 ^ p.1 := by
  rw [(badSync_class hp rest).2.2, decide_eq_true_eq]

theorem encode_badSync (hp : p ∈ badSyncRows) (rest : Nat) :
    encode (p.2 rest) = BitVec.ofNat 32 (2 ^ 32 - 2 ^ (p.1 + 1) + rest) := by
  simp only [encode, (badSync_class hp rest).1]

/-- A class that stands for a BadSync row is listed with that row. -/
theorem exists_badSyncRow_of_classFields {i : Instr} (h : i.classFields = .badSync b rest) :
    ∃ p ∈ badSyncRows, p.1 = b ∧ p.2 rest = i := by
  have hmem : (b, i) ∈ badSyncRows.map fun p => (p.1, p.2 rest) := by
    cases i <;> cases h <;> simp [badSyncRows]
  simpa using List.mem_map.1 hmem

/-- The row of a class with good sync: one for bitrate index 15, else one for each pair of indices
(30_encoding.md R112 to R115). -/
def syncedRow (bri : BitVec 4) (sri : BitVec 2) : Row :=
  if bri = 15#4 then ⟨0xFFE0F000#32, 0xFFE0F000#32⟩
  else ⟨Config.syncValue ++ 0#5 ++ bri ++ sri ++ 0#10, 0xFFE0FC00#32⟩

section synced
variable (bri : BitVec 4) (sri : BitVec 2) (f : OperandBits)

/-- What the table and the encoder say of a class with good sync. -/
theorem synced_class :
    (decodeSynced bri sri f).classFields = .synced bri sri f ∧
      (decodeSynced bri sri f).row = syncedRow bri sri ∧
      (decodeSynced bri sri f).wellFormed = true := by
  rcases Machine.bitrateIndex_cases bri with rfl | rfl | rfl | rfl | rfl | rfl | rfl | rfl | rfl |
    rfl | rfl | rfl | rfl | rfl | rfl | rfl <;>
    rcases Machine.sampleRateIndex_cases sri with rfl | rfl | rfl | rfl <;> exact ⟨rfl, rfl, rfl⟩

@[simp] theorem row_decodeSynced : (decodeSynced bri sri f).row = syncedRow bri sri :=
  (synced_class bri sri f).2.1

@[simp] theorem wellFormed_decodeSynced : (decodeSynced bri sri f).wellFormed = true :=
  (synced_class bri sri f).2.2

@[simp] theorem encode_decodeSynced : encode (decodeSynced bri sri f) = syncedWord bri sri f := by
  simp only [encode, (synced_class bri sri f).1]

end synced

/-- The indices a class stands for give the class back. -/
theorem eq_decodeSynced_of_classFields {i : Instr} {bri : BitVec 4} {sri : BitVec 2}
    {f : OperandBits} (h : i.classFields = .synced bri sri f) : i = decodeSynced bri sri f := by
  cases i
  case rsvbr sri' f' =>
    cases h
    rcases Machine.sampleRateIndex_cases sri with rfl | rfl | rfl | rfl <;> rfl
  all_goals cases h <;> rfl

/-! ## The decoder by row -/

/-- A word in a BadSync row decodes to the row's class with the word's low bits. -/
theorem decode_of_badSyncRow_selects (hp : p ∈ badSyncRows)
    (h : (badSyncRow p.1).selects w = true) : decode w = p.2 (w.toNat % 2 ^ p.1) := by
  rw [decode, if_neg (exists_badSyncRow_selects_iff.1 ⟨p, hp, h⟩)]
  obtain ⟨hzero, hones⟩ := (badSyncRow_selects_iff_bits (lt_of_mem_badSyncRows hp)).1 h
  simp only [badSyncRows, List.mem_cons, List.not_mem_nil, or_false] at hp
  rcases hp with rfl | rfl | rfl | rfl | rfl | rfl | rfl | rfl | rfl | rfl | rfl <;>
    simp only [decodeBadSync, hzero, hones, Nat.reduceLT, Bool.true_eq_false, if_true, if_false]

/-- Every word is in a BadSync row and decodes to its class, or has good sync and decodes by its
indices. -/
theorem decode_cases (w : Word) :
    (∃ p ∈ badSyncRows, (badSyncRow p.1).selects w = true ∧ decode w = p.2 (w.toNat % 2 ^ p.1)) ∨
      (xSync w = Config.syncValue ∧
        decode w = decodeSynced (xBridx w) (xSridx w) (operandBitsOf w)) := by
  by_cases hs : xSync w = Config.syncValue
  · exact .inr ⟨hs, if_pos hs⟩
  · obtain ⟨p, hp, h⟩ := exists_badSyncRow_selects_iff.2 hs
    exact .inl ⟨p, hp, h, decode_of_badSyncRow_selects hp h⟩

/-! ## The rows of the table -/

/-- A word with good sync is in the row of its indices. -/
theorem syncedRow_selects (hs : xSync w = Config.syncValue) :
    (syncedRow (xBridx w) (xSridx w)).selects w = true := by
  rw [Row.selects, beq_iff_eq, syncedRow]
  split
  · next hb => exact Laws.and_bitrateMask hs hb
  · exact Laws.and_indexMask hs rfl rfl

theorem decode_row_selects (w : Word) : (decode w).row.selects w = true := by
  rcases decode_cases w with ⟨p, hp, h, hd⟩ | ⟨hs, hd⟩
  · rw [hd, row_badSync hp]
    exact h
  · rw [hd, row_decodeSynced]
    exact syncedRow_selects hs

theorem badSyncRow_mem_opcodeRows (hp : p ∈ badSyncRows) : badSyncRow p.1 ∈ opcodeRows :=
  (by decide : ∀ c ∈ badSyncRows.map Prod.fst, badSyncRow c ∈ opcodeRows) p.1
    (List.mem_map_of_mem hp)

theorem syncedRow_mem_opcodeRows :
    ∀ (bri : BitVec 4) (sri : BitVec 2), syncedRow bri sri ∈ opcodeRows := by decide

theorem decode_row_mem_opcodeRows (w : Word) : (decode w).row ∈ opcodeRows := by
  rcases decode_cases w with ⟨p, hp, -, hd⟩ | ⟨-, hd⟩
  · rw [hd, row_badSync hp]
    exact badSyncRow_mem_opcodeRows hp
  · rw [hd, row_decodeSynced]
    exact syncedRow_mem_opcodeRows _ _

/-- Two rows differ on a bit that both masks look at. -/
abbrev Row.Disagree (r r' : Row) : Prop := r.matchBits &&& r'.maskBits ≠ r'.matchBits &&& r.maskBits

/-- Rows that disagree select no common word. -/
theorem Row.Disagree.not_selects {r r' : Row} (hd : r.Disagree r') (h : r.selects w = true) :
    ¬ r'.selects w = true := by
  intro h'
  rw [Row.selects, beq_iff_eq] at h h'
  apply hd
  rw [← h, ← h', BitVec.and_assoc, BitVec.and_assoc, BitVec.and_comm r.maskBits]

theorem opcodeRows_pairwise_disagree : opcodeRows.Pairwise Row.Disagree := by decide

/-- No word is in two rows of the table. -/
theorem opcodeRows_selects_unique {r r' : Row} (hr : r ∈ opcodeRows) (hr' : r' ∈ opcodeRows)
    (h : r.selects w = true) (h' : r'.selects w = true) : r = r' := by
  have : Std.Symm Row.Disagree := ⟨fun _ _ hd => hd.symm⟩
  exact by_contra fun hne => (opcodeRows_pairwise_disagree.forall hr hr' hne).not_selects h h'

/-! ## Fields by mask and by byte (30_encoding.md R90, R92) -/

/-- A field of `len` bits from bit `start` is the word under the field's mask, shifted down. -/
theorem extractLsb'_toNat_eq_mask_shift (w : Word) (start len : Nat) (h : start + len ≤ 32) :
    (w.extractLsb' start len).toNat =
      ((w &&& BitVec.ofNat 32 ((2 ^ len - 1) <<< start)) >>> start).toNat := by
  have hlt : (2 ^ len - 1) <<< start < 2 ^ 32 :=
    calc (2 ^ len - 1) <<< start = (2 ^ len - 1) * 2 ^ start := Nat.shiftLeft_eq _ _
      _ < 2 ^ len * 2 ^ start :=
        Nat.mul_lt_mul_of_pos_right (Nat.pred_lt (Nat.two_pow_pos len).ne') (Nat.two_pow_pos start)
      _ = 2 ^ (start + len) := by rw [← pow_add, Nat.add_comm]
      _ ≤ 2 ^ 32 := Nat.pow_le_pow_right (by decide) h
  rw [BitVec.extractLsb'_toNat, BitVec.toNat_ushiftRight, BitVec.toNat_and, BitVec.toNat_ofNat,
    Nat.mod_eq_of_lt hlt, Nat.shiftRight_and_distrib, Nat.shiftLeft_shiftRight,
    Nat.and_two_pow_sub_one_eq_mod]

/-- A field of one bit is the word under the bit's mask, shifted down. -/
theorem getLsbD_toNat_eq_mask_shift (w : Word) (start : Nat) (h : start + 1 ≤ 32) :
    (w.getLsbD start).toNat =
      ((w &&& BitVec.ofNat 32 ((2 ^ 1 - 1) <<< start)) >>> start).toNat := by
  rw [← extractLsb'_toNat_eq_mask_shift w start 1 h, BitVec.extractLsb'_toNat, getLsbD_toNat,
    Nat.shiftRight_eq_div_pow, pow_one]

/-- The four bytes of a word in its bits. -/
theorem extractLsb'_assemble (b0 b1 b2 b3 : Byte) :
    (assemble b0 b1 b2 b3).extractLsb' 24 8 = b0 ∧ (assemble b0 b1 b2 b3).extractLsb' 16 8 = b1 ∧
      (assemble b0 b1 b2 b3).extractLsb' 8 8 = b2 ∧
      (assemble b0 b1 b2 b3).extractLsb' 0 8 = b3 := by
  have h0 := b0.isLt
  have h1 := b1.isLt
  have h2 := b2.isLt
  have h3 := b3.isLt
  refine ⟨BitVec.eq_of_toNat_eq ?_, BitVec.eq_of_toNat_eq ?_, BitVec.eq_of_toNat_eq ?_,
    BitVec.eq_of_toNat_eq ?_⟩ <;>
    rw [BitVec.extractLsb'_toNat, assemble_toNat, Nat.shiftRight_eq_div_pow] <;> omega

/-- A slice of a slice is a slice. -/
theorem extractLsb'_extractLsb' {n : Nat} (x : BitVec n) (start len start' len' : Nat)
    (h : start' + len' ≤ len) :
    (x.extractLsb' start len).extractLsb' start' len' = x.extractLsb' (start + start') len' := by
  refine BitVec.eq_of_getLsbD_eq fun i hi => ?_
  simp [hi, show start' + i < len by omega, Nat.add_assoc]

/-! ## The arguments of `HDR(...)` (30_encoding.md R120) -/

/-- The operand bits that arguments of `HDR(...)` name. -/
def HdrArgs.operandBits (a : HdrArgs) : OperandBits where
  versionId := BitVec.ofNat 2 a.ver
  layer := BitVec.ofNat 2 a.lay
  protectionAbsent := a.prot == 1
  padding := a.pad == 1
  privateBit := a.priv == 1
  channelMode := BitVec.ofNat 2 a.cm
  modeExtension := BitVec.ofNat 2 a.mx
  copyright := a.copy == 1
  original := a.orig == 1
  emphasis := BitVec.ofNat 2 a.emph

theorem toNat_beq_one {n : Nat} (h : n < 2) : (n == 1).toNat = n := by
  interval_cases n <;> rfl

/-- Well-formed arguments are those of their indices and operand bits. -/
theorem HdrArgs.hdrArgsOf_operandBits {a : HdrArgs} (h : a.wellFormed = true) :
    hdrArgsOf (BitVec.ofNat 4 a.br) (BitVec.ofNat 2 a.sr) a.operandBits = a := by
  simp only [HdrArgs.wellFormed, Bool.and_eq_true, decide_eq_true_eq] at h
  obtain ⟨⟨⟨⟨⟨⟨⟨⟨⟨⟨⟨hver, hlay⟩, hprot⟩, hbr⟩, hsr⟩, hpad⟩, hpriv⟩, hcm⟩, hmx⟩, hcopy⟩, horig⟩,
    hemph⟩ := h
  simp only [hdrArgsOf, HdrArgs.operandBits, BitVec.toNat_ofNat, toNat_beq_one, Nat.mod_eq_of_lt,
    Nat.reducePow, *]

/-- The fields of the word of well-formed arguments are the arguments. -/
theorem HdrArgs.hdrArgsOf_word {a : HdrArgs} (h : a.wellFormed = true) :
    xSync a.word = Config.syncValue ∧
      hdrArgsOf (xBridx a.word) (xSridx a.word) (operandBitsOf a.word) = a := by
  have ha := hdrArgsOf_operandBits h
  have hw : a.word = syncedWord (BitVec.ofNat 4 a.br) (BitVec.ofNat 2 a.sr) a.operandBits := by
    rw [syncedWord, ha]
  rw [hw, xSync_syncedWord, xBridx_syncedWord, xSridx_syncedWord, operandBitsOf_syncedWord]
  exact ⟨rfl, ha⟩

end encoding

/-! ## The obligations -/

/-- Settles O1: an instruction is a BadSync class, whose word is in its row, or one with good sync,
whose word has its indices and operand bits. -/
theorem decodeOfEncodeIsTheInstruction : Obligations.DecodeOfEncodeIsTheInstruction := by
  intro i hwf
  cases hc : i.classFields with
  | badSync b rest =>
    obtain ⟨p, hp, rfl, rfl⟩ := exists_badSyncRow_of_classFields hc
    have hr : rest < 2 ^ p.1 := (wellFormed_badSync hp).1 hwf
    obtain ⟨hsel, hlow⟩ := selects_ofNat_low (lt_of_mem_badSyncRows hp) hr
    rw [encode_badSync hp, decode_of_badSyncRow_selects hp hsel, hlow]
  | synced bri sri f =>
    rw [eq_decodeSynced_of_classFields hc, encode_decodeSynced, decode_syncedWord]

/-- Settles O2: a word is its row's ones with its low bits, or the word of its own fields. -/
theorem encodeOfDecodeIsTheWord : Obligations.EncodeOfDecodeIsTheWord := by
  intro w
  rcases decode_cases w with ⟨p, hp, hsel, hd⟩ | ⟨hs, hd⟩
  · rw [hd, wellFormed_badSync hp, encode_badSync hp]
    exact ⟨Nat.mod_lt _ (Nat.two_pow_pos _), ofNat_low_of_selects (lt_of_mem_badSyncRows hp) hsel⟩
  · rw [hd, wellFormed_decodeSynced, encode_decodeSynced]
    exact ⟨rfl, syncedWord_of_sync hs⟩

/-- Settles O3: the row of the decoded instruction selects the word, and no two rows do. -/
theorem everyWordIsInExactlyOneRow : Obligations.EveryWordIsInExactlyOneRow := by
  refine ⟨by decide, fun w => ⟨decode_row_mem_opcodeRows w, decode_row_selects w, fun r hr h => ?_⟩⟩
  exact opcodeRows_selects_unique hr (decode_row_mem_opcodeRows w) h (decode_row_selects w)

/-- Settles O4: a BadSync row is the position of the highest zero among the sync bits. -/
theorem badSyncRowsSplitTheBadSyncWords : Obligations.BadSyncRowsSplitTheBadSyncWords := by
  refine ⟨by decide, fun p hp w => ?_, fun p hp rest => ?_, fun w => ?_,
    fun w p hp q hq h h' => ?_⟩
  · exact badSyncRow_selects_iff_bits (lt_of_mem_badSyncRows hp)
  · exact row_badSync hp rest
  · exact exists_badSyncRow_selects_iff
  · exact badSyncRow_selects_unique (lt_of_mem_badSyncRows hp) (lt_of_mem_badSyncRows hq) h h'

/-- Settles O5, by running the decoder on the eight words. -/
theorem wordsOfTheSpecDecodeRight : Obligations.WordsOfTheSpecDecodeRight := by
  unfold Obligations.WordsOfTheSpecDecodeRight
  decide

/-- Settles O6: the arguments read back from the word are the ones it was written from. -/
theorem hdrNotationSetsEachField : Obligations.HdrNotationSetsEachField := by
  refine ⟨fun a h => ?_, by decide⟩
  obtain ⟨hsync, hargs⟩ := HdrArgs.hdrArgsOf_word h
  exact ⟨HdrArgs.word_toNat h, hsync, congrArg HdrArgs.ver hargs, congrArg HdrArgs.lay hargs,
    congrArg HdrArgs.prot hargs, congrArg HdrArgs.br hargs, congrArg HdrArgs.sr hargs,
    congrArg HdrArgs.pad hargs, congrArg HdrArgs.priv hargs, congrArg HdrArgs.cm hargs,
    congrArg HdrArgs.mx hargs, congrArg HdrArgs.copy hargs, congrArg HdrArgs.orig hargs,
    congrArg HdrArgs.emph hargs⟩

/-- Settles O7: every field is a slice, and a slice is its mask shifted down. -/
theorem fieldsByMaskAndShift : Obligations.FieldsByMaskAndShift := by
  refine ⟨fun w => ?_, by decide, by decide⟩
  have slice := extractLsb'_toNat_eq_mask_shift w
  have bit := getLsbD_toNat_eq_mask_shift w
  exact ⟨slice 21 11 (by decide), slice 19 2 (by decide), slice 17 2 (by decide),
    bit 16 (by decide), slice 12 4 (by decide), slice 10 2 (by decide), bit 9 (by decide),
    bit 8 (by decide), slice 6 2 (by decide), slice 4 2 (by decide), bit 3 (by decide),
    bit 2 (by decide), slice 0 2 (by decide)⟩

/-- Settles O8: each byte is a slice of the word, so a slice of a byte is a slice of the word. -/
theorem fieldsByByte : Obligations.FieldsByByte := by
  rintro b0 b1 b2 b3 w rfl
  refine ⟨assemble_toNat b0 b1 b2 b3, ?_⟩
  obtain ⟨h0, h1, h2, h3⟩ := extractLsb'_assemble b0 b1 b2 b3
  generalize assemble b0 b1 b2 b3 = w at h0 h1 h2 h3
  subst h0 h1 h2 h3
  simp only [xSync, xVer, xLayer, xProt, xBridx, xSridx, xPad, xPriv, xChmode, xModext, xCopy,
    xOrig, xEmph, extractLsb'_extractLsb', BitVec.getLsbD_extractLsb', Nat.reduceAdd,
    Nat.reduceLeDiff, Nat.reduceLT, decide_true, Bool.true_and, and_self]

/-- Settles O9, by evaluating the four name tables at their four codes. -/
theorem enumeratedValuesByName : Obligations.EnumeratedValuesByName :=
  ⟨rfl, rfl, rfl, rfl⟩

end Sys2Proof
end

section
/-!
The family of 40_header_decode.md: what `DECODE` answers in full, and the ports of a standalone HDEC
and FLEN. The lookups are the tables written out wherever the index is not reserved, and `DECODE` is
its four branches.
-/

namespace Sys2Proof.Machine

open Sys2Proof.Claims

section headerDecode
variable {w : Word}

/-! ## The lookups and the flags (40_header_decode.md R144 to R149) -/

theorem lookupBitrate_eq_kbpsTable : ∀ idx : BitVec 4, idx ≠ 15#4 →
    lookupBitrate idx =
      .ok (decide (idx = 0#4), BitVec.ofNat 9 (kbpsTable[idx.toNat]?.getD 0)) := by
  decide

theorem lookupSampleRate_eq_hzTable : ∀ idx : BitVec 2, idx ≠ 3#2 →
    lookupSampleRate idx = .ok (BitVec.ofNat 16 (hzTable[idx.toNat]?.getD 0)) := by
  decide

theorem flagIsValid_eq (v l : BitVec 2) :
    flagIsValid (flagVersionReserved v) (flagLayerReserved l) =
      (decide (v ≠ 1#2) && decide (l ≠ 0#2)) := by
  rw [decide_not, decide_not]
  rfl

/-! ## The branches of `DECODE` (40_header_decode.md R151, R152) -/

theorem decodeHeader_of_badSync (hs : xSync w ≠ 0x7FF#11) : decodeHeader w = .error .badSync :=
  if_pos hs

/-- With good sync a reserved index gives its error, the bitrate's before the sample rate's. -/
theorem decodeHeader_of_reserved (hs : xSync w = 0x7FF#11)
    (hr : xBridx w = 15#4 ∨ xSridx w = 3#2) :
    decodeHeader w =
      .error (if xBridx w = 15#4 then .reservedBitrate else .reservedSampleRate) := by
  rw [decodeHeader, if_neg (not_not_intro hs)]
  by_cases hb : xBridx w = 15#4
  · rw [if_pos hb, if_pos hb]
  · rw [if_neg hb, if_neg hb, if_pos (hr.resolve_left hb)]

/-! ## The ports (40_header_decode.md R153) -/

theorem decodeLen_of_error {k : HeaderError} (hd : decodeHeader w = .error k) :
    decodeLen w = .error k := by
  rw [decodeLen, hd]

theorem hdecPort_of_ok {h : FrameHeader} {l : Nat} (hd : decodeLen w = .ok (h, l)) :
    hdecPort w = ⟨0#3, h, BitVec.ofNat 11 l⟩ := by
  rw [hdecPort, hd]

theorem hdecPort_of_error {k : HeaderError} (hd : decodeLen w = .error k) :
    hdecPort w = ⟨errorCode k, noHeader, 0#11⟩ := by
  rw [hdecPort, hd]

/-- A status is 0 or the code of one of the four errors. -/
theorem hdecPort_status_le (w : Word) : (hdecPort w).status ≤ 4#3 := by
  cases hd : decodeLen w with
  | ok r =>
    rw [hdecPort_of_ok hd]
    exact (by decide : 0#3 ≤ 4#3)
  | error k =>
    rw [hdecPort_of_error hd]
    cases k <;> decide

end headerDecode

/-! ## The obligations -/

/-- Settles O10: each clause is a branch of `DECODE`; in the last, both lookups are the tables. -/
theorem decodeGivesEveryMember : Obligations.DecodeGivesEveryMember := by
  refine fun w => ⟨decodeHeader_of_badSync, fun hs hb => ?_, fun hs hb hr => ?_,
    fun hs hb hr => ?_⟩
  · rw [decodeHeader_of_reserved hs (.inl hb), if_pos hb]
  · rw [decodeHeader_of_reserved hs (.inr hr), if_neg hb]
  · rw [decodeHeader, if_neg (not_not_intro hs), if_neg hb, if_neg hr,
      lookupBitrate_eq_kbpsTable _ hb, lookupSampleRate_eq_hzTable _ hr, flagIsValid_eq]
    rfl

/-- Settles O11: with good sync, every other branch of `DECODE` answers something else. -/
theorem badSyncExactlyWithoutSync : Obligations.BadSyncExactlyWithoutSync := by
  refine fun w => ⟨fun hd hs => ?_, decodeHeader_of_badSync⟩
  rcases decodeHeader_cases w with ⟨hbad, -⟩ | ⟨-, -, he⟩ | ⟨-, -, -, he⟩ |
    ⟨-, -, -, h, free, kbps, hz, he, -⟩
  · exact hbad hs
  all_goals simp [he] at hd

/-- Settles O12: the reserved branches answer an error, and beside an error the ports are 0. -/
theorem reservedIndicesNeverGiveANumber : Obligations.ReservedIndicesNeverGiveANumber := by
  intro w hs hr
  have hd := decodeHeader_of_reserved hs hr
  rw [hdecPort_of_error (decodeLen_of_error hd)]
  exact ⟨hd, rfl, rfl⟩

/-- Settles O13: the ports by the two answers of `DECODE_LEN`, whose length fits its 11 bits. -/
theorem portsCarryTheResult : Obligations.PortsCarryTheResult := by
  refine ⟨rfl, rfl, rfl, rfl, fun w => ⟨fun h l hd => ?_, fun k hd => hdecPort_of_error hd, ?_⟩⟩
  · rw [hdecPort_of_ok hd]
    exact ⟨rfl, rfl, ofNat_length (decodeLen_length_lt hd)⟩
  · have hle := hdecPort_status_le w
    exact ⟨fun h5 => absurd (h5 ▸ hle) (by decide), fun h6 => absurd (h6 ▸ hle) (by decide),
      fun h7 => absurd (h7 ▸ hle) (by decide)⟩

end Sys2Proof.Machine
end

section
/-!
The family of 41_sync_and_length.md: the two forms of the sync test, `FETCH32`, and the length
`FLEN` gives. That a field is all ones is a compare under its mask; a header that decodes carries
what the two lookups give, so its length is a function of the two indices and the padding bit.
-/

namespace Sys2Proof.Machine

open Sys2Proof.Claims

section syncAndLength
variable {w : Word} {h : FrameHeader} {l : Nat}

/-! ## SYNC and FETCH32 (41_sync_and_length.md R180 to R183) -/

/-- A field is all ones exactly when the value under the field's mask is the mask. -/
theorem extractLsb'_eq_allOnes_iff {n : Nat} (x : BitVec n) {start len : Nat} {mask : BitVec n}
    (hmask : ∀ i < n, mask.getLsbD i = decide (start ≤ i ∧ i < start + len))
    (hn : start + len ≤ n) :
    x.extractLsb' start len = BitVec.allOnes len ↔ x &&& mask = mask := by
  constructor
  · intro hx
    refine BitVec.eq_of_getLsbD_eq fun i hi => ?_
    rw [BitVec.getLsbD_and, hmask i hi, Bool.and_eq_right_iff_imp, decide_eq_true_eq]
    rintro ⟨hlo, hhi⟩
    have hbit := congrArg (BitVec.getLsbD · (i - start)) hx
    simpa [show i - start < len by omega, Nat.add_sub_cancel' hlo] using hbit
  · intro hx
    refine BitVec.eq_of_getLsbD_eq fun i hi => ?_
    have hbit := congrArg (BitVec.getLsbD · (start + i)) hx
    simpa [hi, hmask (start + i) (by omega)] using hbit

theorem syncW_iff_mask (w : Word) : syncW w = true ↔ w &&& 0xFFE00000#32 = 0xFFE00000#32 := by
  rw [syncW, beq_iff_eq]
  exact extractLsb'_eq_allOnes_iff w (by decide) (by decide)

theorem syncBytes_iff_mask (b0 b1 : Byte) :
    syncBytes b0 b1 = true ↔ b0 = 0xFF#8 ∧ b1 &&& 0xE0#8 = 0xE0#8 := by
  rw [syncBytes, Bool.and_eq_true, beq_iff_eq, beq_iff_eq]
  exact and_congr_right' (extractLsb'_eq_allOnes_iff b1 (by decide) (by decide))

theorem syncB_of_read {b : Buffer} {a : Nat} {v0 v1 : Byte} (h0 : b.read a = some v0)
    (h1 : b.read (a + 1) = some v1) : syncB b a = some (syncBytes v0 v1) := by
  simp [syncB, memRead, h0, h1]

/-- A byte below the readable length reads as the buffer holds it. -/
theorem Buffer.read_of_lt {b : Buffer} {a : Nat} (ha : a < b.len) :
    b.read a = some (byteAt b.cells a) :=
  if_pos ha

/-! ## The lookups' numbers (41_sync_and_length.md R186) -/

/-- A numeric bitrate is an even number of kbps, at most 320, that 49 does not divide. -/
theorem lookupBitrate_numeric {idx : BitVec 4} {kbps : BitVec 9}
    (hk : lookupBitrate idx = .ok (false, kbps)) :
    kbps.toNat ≤ 320 ∧ kbps.toNat % 2 = 0 ∧ kbps.toNat % 49 ≠ 0 := by
  unfold lookupBitrate at hk
  split at hk <;> cases hk <;> decide

/-- To be a multiple of the rate, `144000 * kbps` lacks the factor 49 at 44100 Hz, the factor 2 at
32000 Hz and none at 48000 Hz. -/
theorem division_exact_iff {kbps : Nat} {hz : BitVec 16} (h2 : kbps % 2 = 0) (h49 : kbps % 49 ≠ 0)
    (hhz : hz = 44100#16 ∨ hz = 48000#16 ∨ hz = 32000#16) :
    144000 * kbps % hz.toNat = 0 ↔ hz ≠ 44100#16 := by
  rcases hhz with rfl | rfl | rfl
  · exact iff_of_false (show 144000 * kbps % 44100 ≠ 0 by omega) (by simp)
  · exact iff_of_true (show 144000 * kbps % 48000 = 0 by omega) (by decide)
  · exact iff_of_true (show 144000 * kbps % 32000 = 0 by omega) (by decide)

/-! ## FLEN by the header's members (41_sync_and_length.md R184) -/

theorem frameLength_numeric {hz : BitVec 16} (hz0 : hz ≠ 0#16) (kbps : BitVec 9) (pad : Bool) :
    frameLength kbps false hz pad = .ok (144000 * kbps.toNat / hz.toNat + pad.toNat) := by
  rw [frameLength, if_neg hz0, if_neg Bool.false_ne_true]

/-! ## A header that decodes (40_header_decode.md R151) -/

/-- The members `FLEN` reads are what the lookups give for the word's two indices, and its padding
bit. -/
theorem decodeHeader_members (hd : decodeHeader w = .ok h) :
    lookupBitrate (xBridx w) = .ok (h.bitrateFree, h.bitrateKbps) ∧
      lookupSampleRate (xSridx w) = .ok h.sampleRateHz ∧ h.padding = xPad w := by
  rcases decodeHeader_cases w with ⟨-, he⟩ | ⟨-, -, he⟩ | ⟨-, -, -, he⟩ |
    ⟨-, -, -, h', free, kbps, hz, he, hk, hh, rfl, rfl, rfl, hp⟩
  iterate 3 simp [he] at hd
  obtain rfl : h' = h := Except.ok.inj (he.symm.trans hd)
  exact ⟨hk, hh, hp⟩

theorem decodeHeader_bitrateFree_iff (hd : decodeHeader w = .ok h) :
    h.bitrateFree = true ↔ xBridx w = 0#4 := by
  obtain ⟨hk, -, -⟩ := decodeHeader_members hd
  have hb : xBridx w ≠ 15#4 := fun hb => by simp [hb, lookupBitrate] at hk
  obtain ⟨free, kbps, hk', hfree⟩ := lookupBitrate_ok hb
  obtain ⟨rfl, -⟩ := Prod.mk.inj (Except.ok.inj (hk.symm.trans hk'))
  exact hfree

theorem decodeHeader_sampleRateHz (hd : decodeHeader w = .ok h) :
    h.sampleRateHz = 44100#16 ∨ h.sampleRateHz = 48000#16 ∨ h.sampleRateHz = 32000#16 := by
  obtain ⟨-, hh, -⟩ := decodeHeader_members hd
  have hr : xSridx w ≠ 3#2 := fun hr => by simp [hr, lookupSampleRate] at hh
  obtain ⟨hz, hh', hval⟩ := lookupSampleRate_ok hr
  obtain rfl := Except.ok.inj (hh.symm.trans hh')
  exact hval

theorem decodeHeader_sampleRateHz_ne_zero (hd : decodeHeader w = .ok h) :
    h.sampleRateHz ≠ 0#16 := by
  rcases decodeHeader_sampleRateHz hd with hz | hz | hz <;> rw [hz] <;> decide

theorem decodeHeader_ne_divisionByZero (w : Word) : decodeHeader w ≠ .error .divisionByZero := by
  rcases decodeHeader_cases w with ⟨-, he⟩ | ⟨-, -, he⟩ | ⟨-, -, -, he⟩ |
    ⟨-, -, -, h, free, kbps, hz, he, -⟩ <;> simp [he]

/-! ## A length that `DECODE_LEN` gives (41_sync_and_length.md R191) -/

theorem decodeLen_ok (hd : decodeLen w = .ok (h, l)) :
    decodeHeader w = .ok h ∧ flen h = .ok l := by
  rcases decodeLen_cases w with ⟨k, -, he⟩ | ⟨h', l', hh, hl, he, -⟩
  · simp [he] at hd
  · obtain ⟨rfl, rfl⟩ := Prod.mk.inj (Except.ok.inj (he.symm.trans hd))
    exact ⟨hh, hl⟩

/-- The length of a numeric bitrate is the floor quotient with the padding byte. -/
theorem decodeLen_numeric (hd : decodeLen w = .ok (h, l)) (hf : h.bitrateFree = false) :
    l = 144000 * h.bitrateKbps.toNat / h.sampleRateHz.toNat + h.padding.toNat := by
  obtain ⟨hh, hl⟩ := decodeLen_ok hd
  rw [flen, hf, frameLength_numeric (decodeHeader_sampleRateHz_ne_zero hh)] at hl
  exact (Except.ok.inj hl).symm

/-- The length is 0 exactly for free format. -/
theorem decodeLen_eq_zero_iff (hd : decodeLen w = .ok (h, l)) : l = 0 ↔ xBridx w = 0#4 := by
  obtain ⟨hh, hl⟩ := decodeLen_ok hd
  obtain ⟨l', hl', hfree, hnum⟩ := flen_of_decodeHeader hh
  obtain rfl := Except.ok.inj (hl.symm.trans hl')
  rw [← decodeHeader_bitrateFree_iff hh]
  refine ⟨fun h0 => ?_, hfree⟩
  by_contra hf
  have := (hnum (Bool.eq_false_of_not_eq_true hf)).1
  omega

end syncAndLength

/-! ## The obligations -/

/-- Settles O14: SYNC tests that a field is all ones, which is a compare under the field's mask. -/
theorem syncPatternByMask : Obligations.SyncPatternByMask :=
  ⟨syncW_iff_mask, syncBytes_iff_mask, fun _ _ _ _ => syncB_of_read, rfl, rfl, rfl⟩

/-- Settles O15: `FETCH32` assembles the four bytes read, and needs them all. -/
theorem fetchIsBigEndianAtAnyOffset : Obligations.FetchIsBigEndianAtAnyOffset := by
  refine fun b a => ⟨fun hroom => ?_, fun hend => ?_⟩
  · exact ⟨_, _, _, _, _, Buffer.read_of_lt (by omega), Buffer.read_of_lt (by omega),
      Buffer.read_of_lt (by omega), Buffer.read_of_lt (by omega),
      (fetch32_eq b a).trans (if_pos hroom), assemble_toNat _ _ _ _⟩
  · exact (fetch32_eq b a).trans (if_neg (by omega))

/-- Settles O16: the word fetched starts with the two bytes `SYNC.B` reads. -/
theorem syncOnBytesIsSyncOnTheWord : Obligations.SyncOnBytesIsSyncOnTheWord := by
  intro b a hroom
  have hf := (fetch32_eq b a).trans (if_pos hroom)
  exact ⟨_, hf, syncB_of_fetch32 hf⟩

/-- Settles O17: the rows hold what the lookups and the division give, and `FLEN` adds the padding
to the quotient. -/
theorem lengthTable : Obligations.LengthTable := by
  have hrows : ∀ r ∈ numericRows, lookupBitrate r.bri = .ok (false, r.kbps) ∧
      lookupSampleRate r.sri = .ok r.hz ∧ 144000 * r.kbps.toNat / r.hz.toNat = r.base ∧
      144000 * r.kbps.toNat % r.hz.toNat = r.remainder ∧ r.hz ≠ 0#16 := by decide
  refine ⟨by decide, fun r hr => ?_⟩
  obtain ⟨hk, hh, hbase, hrem, hz0⟩ := hrows r hr
  exact ⟨hk, hh, hbase, hrem, fun pad => by rw [frameLength_numeric hz0, hbase]⟩

/-- Settles O18: the bounds of the tables carry over to the length. -/
theorem lengthArithmeticIsBounded : Obligations.LengthArithmeticIsBounded := by
  intro w h l hd hf
  obtain ⟨hh, -⟩ := decodeLen_ok hd
  obtain ⟨hk, hr, -⟩ := decodeHeader_members hh
  rw [hf] at hk
  obtain ⟨hle, h2, h49⟩ := lookupBitrate_numeric hk
  obtain ⟨hlo, hhi⟩ := tableLength_bounds hk hr
  have hhz := decodeHeader_sampleRateHz hh
  have hl := decodeLen_numeric hd hf
  have hpad := h.padding.toNat_lt
  exact ⟨by omega, by decide, hhz, hl, hlo, hhi, by omega, by omega, by decide,
    division_exact_iff h2 h49 hhz⟩

/-- Settles O19: `DECODE` gives one of three rates, so `FLEN` never fails on its header. -/
theorem divisionByZeroOnlyStandalone : Obligations.DivisionByZeroOnlyStandalone := by
  refine ⟨fun _ _ _ => if_pos rfl, fun _ _ => decodeHeader_sampleRateHz_ne_zero, fun w hd => ?_⟩
  rcases decodeLen_cases w with ⟨k, hh, he⟩ | ⟨h, l, -, -, he, -⟩
  · obtain rfl := Except.error.inj (he.symm.trans hd)
    exact decodeHeader_ne_divisionByZero w hh
  · simp [he] at hd

/-- Settles O20: an emitted frame has a length of at least 96, a free-format word has 0. -/
theorem freeFormatHasLengthZero : Obligations.FreeFormatHasLengthZero := by
  refine ⟨fun _ _ _ => decodeLen_eq_zero_iff, fun s t hst hfree hstep => ?_⟩
  rw [seqStep_of_headerFound hst] at hstep
  rcases exec_decode_cases s.hdrWord s with hrej | ⟨h, l, hd, hlo, -, -, -⟩
  · obtain rfl := Host.Outcome.next.inj (hrej.symm.trans hstep)
    simp [State.resync]
  · have := (decodeLen_eq_zero_iff hd).2 hfree
    omega

/-- Settles O21: the same two indices give the same floor quotient, whatever the other bits are. -/
theorem paddingAddsOneByteAtEveryLayer : Obligations.PaddingAddsOneByteAtEveryLayer := by
  intro w w' h h' l l' hd hd' hf hb hr
  obtain ⟨hk, hh, hp⟩ := decodeHeader_members (decodeLen_ok hd).1
  obtain ⟨hk', hh', hp'⟩ := decodeHeader_members (decodeLen_ok hd').1
  rw [← hb, hk] at hk'
  rw [← hr, hh] at hh'
  obtain ⟨hfree, hkbps⟩ := Prod.mk.inj (Except.ok.inj hk')
  rw [decodeLen_numeric hd hf, decodeLen_numeric hd' (hfree ▸ hf), ← hkbps,
    ← Except.ok.inj hh', hp, hp', Nat.add_right_comm]

end Sys2Proof.Machine
end

section
/-!
The family of 42_header_classes.md: what each header class selects, what `DECODE_LEN` gives its
words, and SEQ's outcome for a candidate of the class. The outcome follows from `DECODE_LEN` of the
class's word, since the word decodes to the class, so each rule is a statement about `DECODE_LEN`.
-/

namespace Sys2Proof.Machine

open Sys2Proof.Claims

section headerClasses
variable {w : Word} {s t : State} {bri : BitVec 4} {sri : BitVec 2} {f : OperandBits} {i : Instr}
  {free : Bool} {kbps : BitVec 9} {hz : BitVec 16} {l : Nat} {h : FrameHeader} {k : HeaderError}

/-! ## What the rows with good sync select (30_encoding.md R112 to R115) -/

/-- A field that a row's mask keeps whole is, in a word of the row, the field of the match bits. -/
theorem extractLsb'_of_selects {r : Row} {start len : Nat} (hsel : r.selects w = true)
    (hmask : r.maskBits.extractLsb' start len = BitVec.allOnes len) :
    w.extractLsb' start len = r.matchBits.extractLsb' start len := by
  rw [← beq_iff_eq.1 hsel, BitVec.extractLsb'_and, hmask, BitVec.and_allOnes]

theorem syncedRow_maskBits : ∀ (bri : BitVec 4) (sri : BitVec 2),
    xSync (syncedRow bri sri).maskBits = BitVec.allOnes 11 ∧
      xBridx (syncedRow bri sri).maskBits = BitVec.allOnes 4 ∧
      (bri ≠ 15#4 → xSridx (syncedRow bri sri).maskBits = BitVec.allOnes 2) := by decide

theorem syncedRow_matchBits : ∀ (bri : BitVec 4) (sri : BitVec 2),
    xSync (syncedRow bri sri).matchBits = Config.syncValue ∧
      xBridx (syncedRow bri sri).matchBits = bri ∧
      (bri ≠ 15#4 → xSridx (syncedRow bri sri).matchBits = sri) := by decide

/-- A row with good sync selects the words of its bitrate index and, unless that is the reserved 15,
of its sample-rate index. -/
theorem syncedRow_selects_iff : (syncedRow bri sri).selects w = true ↔
    xSync w = Config.syncValue ∧ xBridx w = bri ∧ (bri ≠ 15#4 → xSridx w = sri) := by
  constructor
  · intro hsel
    obtain ⟨hs, hb, hr⟩ := syncedRow_matchBits bri sri
    obtain ⟨hs', hb', hr'⟩ := syncedRow_maskBits bri sri
    exact ⟨(extractLsb'_of_selects hsel hs').trans hs, (extractLsb'_of_selects hsel hb').trans hb,
      fun h15 => (extractLsb'_of_selects hsel (hr' h15)).trans (hr h15)⟩
  · rintro ⟨hs, rfl, hr⟩
    have hsel := syncedRow_selects hs
    by_cases h15 : xBridx w = 15#4
    · rw [h15] at hsel ⊢
      exact hsel
    · rwa [hr h15] at hsel

/-- A class of two indices is selected by its row, and is what the decoder gives there. -/
theorem selectsIndices_syncedRow (hb : bri ≠ 15#4) :
    SelectsIndices (decodeSynced bri sri) (syncedRow bri sri) bri sri := by
  refine fun w => ⟨?_, fun hsel => ?_⟩
  · simp only [syncedRow_selects_iff, hb, ne_eq, not_false_eq_true, forall_const]
  · obtain ⟨hs, rfl, hr⟩ := syncedRow_selects_iff.1 hsel
    rw [decode, if_pos hs, hr hb]

/-! ## The constructors of the statement's lists are the decoder's -/

theorem build_of_mem_reservedSampleRateRows {p : BitVec 4 × (OperandBits → Instr)}
    (hp : p ∈ reservedSampleRateRows) : p.2 = decodeSynced p.1 3#2 :=
  have hall : reservedSampleRateRows.map (fun p => p.2) =
    reservedSampleRateRows.map (fun p => decodeSynced p.1 3#2) := rfl
  List.map_inj_left.1 hall p hp

theorem build_of_mem_numericRows {r : NumericRow} (hr : r ∈ numericRows) :
    r.build = decodeSynced r.bri r.sri :=
  have hall : numericRows.map (fun r => r.build) =
    numericRows.map (fun r => decodeSynced r.bri r.sri) := rfl
  List.map_inj_left.1 hall r hr

theorem row_of_mem_numericRows : ∀ r ∈ numericRows,
    (⟨r.matchBits, 0xFFE0FC00#32⟩ : Row) = syncedRow r.bri r.sri ∧ r.bri ≠ 15#4 := by decide

/-! ## A class's outcome from `DECODE_LEN` of its word (43_sequencer.md R308) -/

theorem exec_of_decodeLen_encode (hwf : i.wellFormed = true) (s : State) :
    exec i s = headerLength ((decodeLen (encode i)).map Prod.snd) s := by
  rw [← exec_decode, decodeOfEncodeIsTheInstruction i hwf]

/-- A class whose words do not decode is rejected by H.ERROR. -/
theorem exec_of_decodeLen_error (hwf : i.wellFormed = true) (hd : decodeLen (encode i) = .error k)
    (s : State) : exec i s = .next (Rejected s) := by
  rw [exec_of_decodeLen_encode hwf, hd]
  rfl

theorem exec_of_decodeLen_ok (hwf : i.wellFormed = true) (hd : decodeLen (encode i) = .ok (h, l))
    (s : State) : exec i s = headerDecoded l s := by
  rw [exec_of_decodeLen_encode hwf, hd]
  rfl

/-- H.FALSEPOS: a zero length or an overrun (43_sequencer.md R306). -/
theorem headerDecoded_rejected (hrej : l = 0 ∨ s.bufLen < s.hdrStart + l) :
    headerDecoded l s = .next (Rejected s) :=
  if_pos hrej

/-- H.EMIT: a frame that fits the buffer (43_sequencer.md R307). -/
theorem headerDecoded_emitted (hl : l ≠ 0) (hfit : s.hdrStart + l ≤ s.bufLen) :
    headerDecoded l s = .next (Emitted s l) :=
  if_neg (not_or.2 ⟨hl, hfit.not_gt⟩)

/-! ## `DECODE_LEN` of a word with good sync (40_header_decode.md R151) -/

/-- Where neither index is reserved, the header carries what the lookups give, the word's operand
bits, and their flags. -/
theorem decodeHeader_of_lookups (hs : xSync w = Config.syncValue)
    (hk : lookupBitrate (xBridx w) = .ok (free, kbps)) (hh : lookupSampleRate (xSridx w) = .ok hz) :
    ∃ h, decodeHeader w = .ok h ∧ h.bitrateFree = free ∧ h.bitrateKbps = kbps ∧
      h.sampleRateHz = hz ∧ CopiesOperands h (operandBitsOf w) ∧ FlagsOf h (operandBitsOf w) := by
  have hb : xBridx w ≠ 15#4 := fun hb => by simp [hb, lookupBitrate] at hk
  have hr : xSridx w ≠ 3#2 := fun hr => by simp [hr, lookupSampleRate] at hh
  rw [decodeHeader, if_neg (not_not_intro hs), if_neg hb, if_neg hr, hk, hh]
  refine ⟨_, rfl, rfl, rfl, rfl, ⟨rfl, rfl, rfl, rfl, rfl, rfl, rfl, rfl, rfl, rfl⟩, ?_⟩
  exact {
    versionReserved := beq_iff_eq
    layerReserved := beq_iff_eq
    emphasisReserved := beq_iff_eq
    isValid := by simp [flagIsValid_eq, operandBitsOf] }

/-- `DECODE_LEN` of the word of a class with good sync, from the two lookups and `FLEN`. -/
theorem decodeLen_of_lookups (f : OperandBits) (hk : lookupBitrate bri = .ok (free, kbps))
    (hh : lookupSampleRate sri = .ok hz) (hl : frameLength kbps free hz f.padding = .ok l) :
    ∃ h, decodeLen (encode (decodeSynced bri sri f)) = .ok (h, l) ∧ h.bitrateFree = free ∧
      h.bitrateKbps = kbps ∧ h.sampleRateHz = hz ∧ CopiesOperands h f ∧ FlagsOf h f := by
  rw [← xBridx_syncedWord bri sri f] at hk
  rw [← xSridx_syncedWord bri sri f] at hh
  obtain ⟨h, hd, rfl, rfl, rfl, hcopies, hflags⟩ :=
    decodeHeader_of_lookups (xSync_syncedWord bri sri f) hk hh
  rw [operandBitsOf_syncedWord] at hcopies hflags
  have hflen : flen h = .ok l := by rw [flen, hcopies.padding, hl]
  have hlen : decodeLen (encode (decodeSynced bri sri f)) = .ok (h, l) := by
    simp only [encode_decodeSynced, decodeLen, hd, hflen]
  exact ⟨h, hlen, rfl, rfl, rfl, hcopies, hflags⟩

/-! ## The rules of the free and the numeric rows -/

/-- A free-format row (42_header_classes.md, section 2): length 0, so the candidate is rejected. -/
theorem freeRule_of_sampleRate (sri : BitVec 2) (hz : BitVec 16)
    (hh : lookupSampleRate sri = .ok hz) (hz0 : hz ≠ 0#16) :
    FreeRule (decodeSynced 0#4 sri) (syncedRow 0#4 sri).matchBits sri hz := by
  refine ⟨selectsIndices_syncedRow (by decide), fun f => ?_⟩
  obtain ⟨h, hd, hfree, hkbps, hhz, hcopies, hflags⟩ :=
    decodeLen_of_lookups f (bri := 0#4) rfl hh (if_neg hz0)
  refine ⟨⟨h, hd, hfree, hkbps, hhz, hcopies, hflags⟩, fun s _ => ?_⟩
  rw [exec_of_decodeLen_ok (wellFormed_decodeSynced _ _ _) hd, headerDecoded_rejected (.inl rfl)]

/-- A numeric row (42_header_classes.md, section 3): the numbers are those of the length table, and
the length is not 0, so whether the frame fits decides the outcome. -/
theorem rule_of_mem_numericRows {r : NumericRow} (hr : r ∈ numericRows) : r.Rule := by
  obtain ⟨hk, hh, hbase, hrem, hlen⟩ := lengthTable.2 r hr
  obtain ⟨hrow, hb⟩ := row_of_mem_numericRows r hr
  obtain ⟨hlo, -⟩ := tableLength_bounds hk hh
  have hhz : 0 < r.hz.toNat := Nat.pos_of_ne_zero fun h0 => by simp [h0] at hlo
  rw [NumericRow.Rule, build_of_mem_numericRows hr, hrow]
  refine ⟨selectsIndices_syncedRow hb, ?_, hrem ▸ Nat.mod_lt _ hhz, fun f => ?_⟩
  · rw [← hbase, ← hrem, Nat.div_add_mod']
  · obtain ⟨h, hd, hfree, hkbps, hrate, hcopies, hflags⟩ :=
      decodeLen_of_lookups f hk hh (hlen f.padding)
    refine ⟨⟨h, hd, hkbps, hfree, hrate, hcopies, hflags⟩, fun s _ => ?_⟩
    rw [exec_of_decodeLen_ok (wellFormed_decodeSynced _ _ _) hd]
    have hl0 : r.base + f.padding.toNat ≠ 0 := by omega
    exact ⟨headerDecoded_emitted hl0, fun hover => headerDecoded_rejected (.inr hover)⟩

/-! ## The reserved rows and the BadSync rows -/

/-- `DECODE` of a class with a reserved index: the bitrate's error comes first. -/
theorem decodeHeader_encode_reserved (hres : bri = 15#4 ∨ sri = 3#2) (f : OperandBits) :
    decodeHeader (encode (decodeSynced bri sri f)) =
      .error (if bri = 15#4 then .reservedBitrate else .reservedSampleRate) := by
  have hd := decodeHeader_of_reserved (xSync_syncedWord bri sri f)
  rw [xBridx_syncedWord, xSridx_syncedWord] at hd
  rw [encode_decodeSynced, hd hres]

theorem decodeSynced_reservedBitrate (sri : BitVec 2) (f : OperandBits) :
    decodeSynced 15#4 sri f = .rsvbr sri f := rfl

/-- A class of the BadSync rows has no good sync in its word. -/
theorem xSync_encode_badSync {p : Nat × (Nat → Instr)} {rest : Nat} (hp : p ∈ badSyncRows)
    (hr : rest < 2 ^ p.1) : xSync (encode (p.2 rest)) ≠ Config.syncValue := by
  rw [encode_badSync hp]
  exact exists_badSyncRow_selects_iff.1
    ⟨p, hp, (selects_ofNat_low (lt_of_mem_badSyncRows hp) hr).1⟩

/-- The words without sync are those that decode to a BadSync class: no class is both a BadSync
class and one with good sync. -/
theorem decode_badSync_iff :
    xSync w ≠ Config.syncValue ↔ ∃ p ∈ badSyncRows, ∃ rest, decode w = p.2 rest := by
  rcases decode_cases w with ⟨p, hp, hsel, hd⟩ | ⟨hs, hd⟩
  · exact iff_of_true (exists_badSyncRow_selects_iff.1 ⟨p, hp, hsel⟩) ⟨p, hp, _, hd⟩
  · refine iff_of_false (not_not_intro hs) ?_
    rintro ⟨p, hp, rest, hd'⟩
    have hclass := congrArg Instr.classFields (hd.symm.trans hd')
    rw [(synced_class _ _ _).1, (badSync_class hp rest).1] at hclass
    cases hclass

/-! ## Searching (43_sequencer.md R302, R303) -/

/-- A word without sync at the cursor: the search goes on one byte later. -/
theorem seqStep_of_no_sync (hst : s.st = .searching) (hl : s.limitReached = false)
    (hroom : s.cursor + 4 ≤ s.bufLen) (hw : fetch32 s.buf s.cursor = some w)
    (hno : xSync w ≠ Config.syncValue) : seqStep s = .next s.advance := by
  have hsync : syncB s.buf s.cursor = some false := by
    rw [syncB_of_fetch32 hw, syncW, beq_false_of_ne hno]
  rw [seqStep_of_searching hst, searchStep, hl, if_neg Bool.false_ne_true,
    if_neg hroom.not_gt, hsync]

/-- The word a Searching step latches has good sync. -/
theorem xSync_of_found (hst : s.st = .searching) (hstep : seqStep s = .next t)
    (hfound : t.st = .headerFound) : xSync t.hdrWord = Config.syncValue := by
  rw [seqStep_of_searching hst] at hstep
  rcases searchStep_cases s with ⟨-, he⟩ | ⟨-, -, he⟩ | ⟨-, -, -, he⟩ | ⟨-, -, hsync, w, hw, he⟩ |
    ⟨-, -, -, he⟩ <;> rw [he] at hstep <;> cases hstep
  · cases hfound
  · cases hfound
  · cases hst.symm.trans hfound
  · rw [syncB_of_fetch32 hw] at hsync
    exact beq_iff_eq.1 (Option.some.inj hsync)

end headerClasses

/-! ## The obligations -/

/-- Settles O22: a BadSync class has no good sync in its word, so `DECODE` gives its first error,
and a Searching step latches only words that pass the sync test. -/
theorem badSyncClassRule : Obligations.BadSyncClassRule := by
  refine ⟨fun w => decode_badSync_iff, fun p hp rest hr => ?_, fun s t => xSync_of_found⟩
  have hsync := xSync_encode_badSync hp hr
  have hd := decodeHeader_of_badSync hsync
  have hdl := decodeLen_of_error hd
  refine ⟨hsync, hd, hdl, fun s _ => ?_, fun s hst hlimit hroom hw => ?_⟩
  · exact exec_of_decodeLen_error ((wellFormed_badSync hp).2 hr) hdl s
  · rw [← s.limitReached_iff, Bool.not_eq_true] at hlimit
    exact seqStep_of_no_sync hst hlimit hroom hw hsync

/-- Settles O23: bitrate index 15 is the row of its own index alone, and is tested before the sample
rate. -/
theorem reservedBitrateClassRule : Obligations.ReservedBitrateClassRule := by
  refine ⟨fun w => ⟨?_, fun hsel => ?_⟩, fun sri f => ?_, fun b3 => ?_⟩
  · exact (syncedRow_selects_iff (bri := 15#4) (sri := 0#2)).trans (by simp)
  · obtain ⟨hs, hb, -⟩ := (syncedRow_selects_iff (bri := 15#4) (sri := 0#2)).1 hsel
    rw [decode, if_pos hs, hb, decodeSynced_reservedBitrate]
  · have hd := decodeHeader_encode_reserved (bri := 15#4) (sri := sri) (.inl rfl) f
    rw [if_pos rfl, decodeSynced_reservedBitrate] at hd
    have hdl := decodeLen_of_error hd
    exact ⟨hd, hdl, fun s _ => exec_of_decodeLen_error rfl hdl s⟩
  · have hb : xBridx (assemble 0xFF#8 0xFF#8 0xFF#8 b3) = 15#4 := by
      obtain ⟨-, -, -, -, -, -, hb, -⟩ := fieldsByByte 0xFF#8 0xFF#8 0xFF#8 b3 _ rfl
      exact hb.symm
    have hs : xSync (assemble 0xFF#8 0xFF#8 0xFF#8 b3) = Config.syncValue :=
      beq_iff_eq.1 (syncW_assemble 0xFF#8 0xFF#8 0xFF#8 b3)
    rw [decodeHeader_of_reserved hs (.inl hb), if_pos hb]

/-- Settles O24: the fifteen classes are those of sample-rate index 3 at a bitrate index other than
15, whose error would come first. -/
theorem reservedSampleRateClassRule : Obligations.ReservedSampleRateClassRule := by
  intro p hp
  have hb : p.1 ≠ 15#4 := (by decide : ∀ p ∈ reservedSampleRateRows, p.1 ≠ 15#4) p hp
  have hrow : (⟨BitVec.ofNat 32 (0xFFE00C00 + p.1.toNat * 0x1000), 0xFFE0FC00#32⟩ : Row) =
      syncedRow p.1 3#2 :=
    (by decide : ∀ bri : BitVec 4, bri ≠ 15#4 →
      (⟨BitVec.ofNat 32 (0xFFE00C00 + bri.toNat * 0x1000), 0xFFE0FC00#32⟩ : Row) =
        syncedRow bri 3#2) p.1 hb
  rw [build_of_mem_reservedSampleRateRows hp, hrow]
  refine ⟨selectsIndices_syncedRow hb, fun f => ?_⟩
  have hd := decodeHeader_encode_reserved (bri := p.1) (sri := 3#2) (.inr rfl) f
  rw [if_neg hb] at hd
  have hdl := decodeLen_of_error hd
  exact ⟨hd, hdl, fun s _ => exec_of_decodeLen_error (wellFormed_decodeSynced _ _ _) hdl s⟩

/-- Settles O25: the three rows are bitrate index 0 at the three sample rates. -/
theorem freeFormatClassRules : Obligations.FreeFormatClassRules :=
  ⟨freeRule_of_sampleRate 0#2 44100#16 rfl (by decide),
    freeRule_of_sampleRate 1#2 48000#16 rfl (by decide),
    freeRule_of_sampleRate 2#2 32000#16 rfl (by decide)⟩

/-- Settles O26: the rows are among the 42 numeric ones. -/
theorem numericClassRules1to4 : Obligations.NumericClassRules1to4 :=
  fun _ hr => rule_of_mem_numericRows (by simp [numericRows, hr])

/-- Settles O27: the rows are among the 42 numeric ones. -/
theorem numericClassRules5to8 : Obligations.NumericClassRules5to8 :=
  fun _ hr => rule_of_mem_numericRows (by simp [numericRows, hr])

/-- Settles O28: the rows are among the 42 numeric ones. -/
theorem numericClassRules9to12 : Obligations.NumericClassRules9to12 :=
  fun _ hr => rule_of_mem_numericRows (by simp [numericRows, hr])

/-- Settles O29: the rows are among the 42 numeric ones. -/
theorem numericClassRules13to14 : Obligations.NumericClassRules13to14 :=
  fun _ hr => rule_of_mem_numericRows (by simp [numericRows, hr])

end Sys2Proof.Machine
end

section
/-!
The family of 43_sequencer.md: SEQ's steps and what a scan presents. `SeqMove` says once which
update a step of SEQ makes and when, and every statement about one step is read off it. A scan is
followed by the frames it has still to present (`State.remaining`): an event leaves them, or presents
the first of them. With every record pulled it ends, since each event lowers `State.stepsLeft`.
-/

namespace Sys2Proof.Machine

open Sys2Proof.Claims

section sequencer
variable {s t s' : State} {b : Buffer} {n c m k : Nat} {en pulls : Bool} {mx : Nat} {w : Word}
  {h : FrameHeader} {l width : Nat} {r : FrameRecord} {frames : List FrameRecord}

/-! ## A step of SEQ (43_sequencer.md R299 to R311) -/

/-- The update a step of SEQ makes, and the conditions under which it does. -/
inductive SeqMove (s : State) : State → Prop
  | limit (hst : s.st = .searching) (hlimit : s.limitReached = true) : SeqMove s s.stopAtLimit
  | atEnd (hst : s.st = .searching) (hlimit : s.limitReached = false)
      (hend : s.bufLen < s.cursor + 4) : SeqMove s s.stopAtEnd
  | advance (hst : s.st = .searching) (hlimit : s.limitReached = false)
      (hroom : s.cursor + 4 ≤ s.bufLen) (hsync : syncB s.buf s.cursor = some false) :
      SeqMove s s.advance
  | found {w : Word} (hst : s.st = .searching) (hlimit : s.limitReached = false)
      (hroom : s.cursor + 4 ≤ s.bufLen) (hsync : syncB s.buf s.cursor = some true)
      (hfetch : fetch32 s.buf s.cursor = some w) : SeqMove s (s.found w)
  | reject (hst : s.st = .headerFound)
      (hrej : ∀ h l, decodeLen s.hdrWord = .ok (h, l) → l = 0 ∨ s.bufLen < s.hdrStart + l) :
      SeqMove s s.resync
  | emit {h : FrameHeader} {l : Nat} (hst : s.st = .headerFound)
      (hdec : decodeLen s.hdrWord = .ok (h, l)) (hlo : 96 ≤ l) (hhi : l ≤ 1441)
      (hfit : s.hdrStart + l ≤ s.bufLen) : SeqMove s (s.emit l)
  | wait (hst : s.st = .frameEmitted ∨ s.st = .exhausted) : SeqMove s s

/-- The outcome of a candidate whose word decodes (43_sequencer.md R308). -/
theorem exec_decode_of_ok (hdec : decodeLen w = .ok (h, l)) (s : State) :
    exec (decode w) s = headerDecoded l s := by
  rw [exec_decode, hdec]
  rfl

/-- The outcome of a candidate whose word does not decode is H.ERROR (43_sequencer.md R305). -/
theorem exec_decode_of_error {e : HeaderError} (hdec : decodeLen w = .error e) (s : State) :
    exec (decode w) s = .next s.resync := by
  rw [exec_decode, hdec]
  rfl

/-- A length other than 0 is one of the table's, with or without padding
(41_sync_and_length.md R186). -/
theorem length_bounds_of_ne_zero (hdec : decodeLen w = .ok (h, l)) (hl : l ≠ 0) :
    96 ≤ l ∧ l ≤ 1441 := by
  rcases decodeLen_cases w with ⟨e, -, he⟩ | ⟨h', l', -, -, he, hb⟩
  · simp [he] at hdec
  · obtain ⟨-, rfl⟩ := Prod.mk.inj (Except.ok.inj (he.symm.trans hdec))
    exact hb.resolve_left hl

theorem seqMove_of_searchStep (hst : s.st = .searching) (hstep : searchStep s = .next t) :
    SeqMove s t := by
  rcases searchStep_cases s with ⟨hl, he⟩ | ⟨hl, hend, he⟩ | ⟨hl, hroom, hsync, he⟩ |
    ⟨hl, hroom, hsync, w, hw, he⟩ | ⟨-, -, -, he⟩ <;> rw [he] at hstep <;> cases hstep
  · exact .limit hst hl
  · exact .atEnd hst hl hend
  · exact .advance hst hl hroom hsync
  · exact .found hst hl hroom hsync hw

theorem seqMove_of_exec (hst : s.st = .headerFound)
    (hstep : exec (decode s.hdrWord) s = .next t) : SeqMove s t := by
  cases hdec : decodeLen s.hdrWord with
  | error e =>
    rw [exec_decode_of_error hdec] at hstep
    cases hstep
    exact .reject hst (by simp [hdec])
  | ok p =>
    obtain ⟨h, l⟩ := p
    rw [exec_decode_of_ok hdec] at hstep
    by_cases hrej : l = 0 ∨ s.bufLen < s.hdrStart + l
    · rw [headerDecoded_rejected hrej] at hstep
      cases hstep
      refine .reject hst fun h' l' hdec' => ?_
      obtain ⟨-, rfl⟩ := Prod.mk.inj (Except.ok.inj (hdec.symm.trans hdec'))
      exact hrej
    · obtain ⟨hl, hfit⟩ := not_or.1 hrej
      obtain ⟨hlo, hhi⟩ := length_bounds_of_ne_zero hdec hl
      rw [headerDecoded_emitted hl (Nat.not_lt.1 hfit)] at hstep
      cases hstep
      exact .emit hst hdec hlo hhi (Nat.not_lt.1 hfit)

theorem exec_decode_of_rejected
    (hrej : ∀ h l, decodeLen s.hdrWord = .ok (h, l) → l = 0 ∨ s.bufLen < s.hdrStart + l) :
    exec (decode s.hdrWord) s = .next s.resync := by
  cases hdec : decodeLen s.hdrWord with
  | error e => exact exec_decode_of_error hdec s
  | ok p =>
    obtain ⟨h, l⟩ := p
    rw [exec_decode_of_ok hdec]
    exact headerDecoded_rejected (hrej h l hdec)

/-- The moves are SEQ's steps, all of them and no others. -/
theorem seqStep_eq_next_iff : seqStep s = .next t ↔ SeqMove s t := by
  constructor
  · intro hstep
    rcases seqState_cases s with hst | hst | hst
    · exact seqMove_of_searchStep hst (seqStep_of_searching hst ▸ hstep)
    · exact seqMove_of_exec hst (seqStep_of_headerFound hst ▸ hstep)
    · rw [seqStep_of_waiting hst] at hstep
      cases hstep
      exact .wait hst
  · intro hmove
    cases hmove with
    | limit hst hl => simp [seqStep_of_searching hst, searchStep, hl]
    | atEnd hst hl hend => simp [seqStep_of_searching hst, searchStep, hl, hend]
    | advance hst hl hroom hsync =>
      simp [seqStep_of_searching hst, searchStep, hl, hroom.not_gt, hsync]
    | found hst hl hroom hsync hw =>
      simp [seqStep_of_searching hst, searchStep, hl, hroom.not_gt, hsync, hw]
    | reject hst hrej => rw [seqStep_of_headerFound hst, exec_decode_of_rejected hrej]
    | emit hst hdec hlo _ hfit =>
      rw [seqStep_of_headerFound hst, exec_decode_of_ok hdec]
      exact headerDecoded_emitted (by omega) hfit
    | wait hst => exact seqStep_of_waiting hst

/-- SEQ has a step wherever the buffer is readable up to `buf_len`. -/
theorem exists_seqMove (hread : s.Readable) : ∃ t, SeqMove s t := by
  rcases seqState_cases s with hst | hst | hst
  · rcases searchStep_cases s with ⟨hl, -⟩ | ⟨hl, hend, -⟩ | ⟨hl, hroom, hsync, -⟩ |
      ⟨hl, hroom, hsync, w, hw, -⟩ | ⟨-, hroom, hunread, -⟩
    · exact ⟨_, .limit hst hl⟩
    · exact ⟨_, .atEnd hst hl hend⟩
    · exact ⟨_, .advance hst hl hroom hsync⟩
    · exact ⟨_, .found hst hl hroom hsync hw⟩
    · exact absurd (hroom.trans hread) hunread.not_ge
  · rcases exec_decode_cases s.hdrWord s with he | ⟨h, l, hdec, hlo, hhi, hfit, -⟩
    · exact ⟨_, seqMove_of_exec hst he⟩
    · exact ⟨_, .emit hst hdec hlo hhi hfit⟩
  · exact ⟨s, .wait hst⟩

theorem limitReached_eq_false_iff :
    s.limitReached = false ↔ ¬ (s.limitEn = true ∧ s.maxFrames ≤ s.frameCount) := by
  rw [← s.limitReached_iff, Bool.not_eq_true]

/-- Nothing is read at the limit (43_sequencer.md R300). -/
theorem seqReads_of_limit (hst : s.st = .searching) (hl : s.limitReached = true) :
    seqReads s = [] := by
  simp [seqReads, hst, hl]

/-- Nothing is read at the end of the buffer (43_sequencer.md R301). -/
theorem seqReads_of_end (hst : s.st = .searching) (hend : s.bufLen < s.cursor + 4) :
    seqReads s = [] := by
  simp [seqReads, hst, hend]

/-- What a step of SEQ does to the registers whose bounds are no field of `State.Inv`. -/
theorem SeqMove.registers (hmove : SeqMove s t) :
    SameConfig s t ∧ (t.hdrStart = s.hdrStart ∨ t.hdrStart = s.cursor) ∧
      (t.outFrame.start = s.outFrame.start ∨ t.outFrame.start = s.hdrStart) := by
  cases hmove with
  | found => exact ⟨⟨rfl, rfl, rfl, rfl⟩, .inr rfl, .inl rfl⟩
  | emit => exact ⟨⟨rfl, rfl, rfl, rfl⟩, .inl rfl, .inr rfl⟩
  | _ => exact ⟨⟨rfl, rfl, rfl, rfl⟩, .inl rfl, .inl rfl⟩

/-! ## An event by whose turn it is -/

theorem step_of_seqTurn (hturn : s.SeqTurn) :
    step s = seqStep { s with hostEvents := s.laterEvents } := by
  rcases hturn with hev | ⟨rest, hev⟩
  · have hsame : s.laterEvents = s.hostEvents := by simp [State.laterEvents, hev]
    rw [hsame]
    exact (by simp [step, hev] : step s = seqStep s)
  · simp [step, hev, State.laterEvents]

theorem step_of_command {c : HostCommand} {rest : List HostEvent}
    (hev : s.hostEvents = .command c :: rest) :
    step s = hostCommand c { s with hostEvents := rest } := by
  simp [step, hev]

theorem resetValues_resetRegisters (s : State) : ResetValues s.resetRegisters :=
  ⟨rfl, rfl, rfl, rfl, rfl, rfl, rfl, rfl, rfl, rfl, rfl, rfl, rfl⟩

theorem sameConfig_pull (s : State) : SameConfig s s.pull := by
  constructor <;> simp

/-! ## The widths of the registers (43_sequencer.md R318) -/

/-- The invariant bounds the cursor and the count by the configuration. -/
theorem State.Inv.fits (hi : s.Inv) (hcfg : s.cfgStartOffset < 2 ^ width)
    (hlen : s.bufLen < 2 ^ width) (hmax : s.maxFrames < 2 ^ width)
    (hhdr : s.hdrStart < 2 ^ width) (hout : s.outFrame.start < 2 ^ width) : s.Fits width := by
  have hcursor : s.cursor < 2 ^ width := by
    rcases hi.bounded with hb | hb <;> omega
  have hcount : s.frameCount < 2 ^ width := by
    have := hi.counted
    omega
  exact ⟨hcursor, hhdr, hcount, hcfg, hlen, hmax, hout⟩

theorem State.Fits.of_registers (hf : s.Fits width) (hi : t.Inv) (hcfg : SameConfig s t)
    (hhdr : t.hdrStart = s.hdrStart ∨ t.hdrStart = s.cursor)
    (hout : t.outFrame.start = s.outFrame.start ∨ t.outFrame.start = s.hdrStart) :
    t.Fits width := by
  refine hi.fits (hcfg.cfgStartOffset ▸ hf.cfgStartOffset) (hcfg.bufLen ▸ hf.bufLen)
    (hcfg.maxFrames ▸ hf.maxFrames) ?_ ?_
  · rcases hhdr with h | h <;> rw [h]
    exacts [hf.hdrStart, hf.cursor]
  · rcases hout with h | h <;> rw [h]
    exacts [hf.outStart, hf.hdrStart]

theorem hostCommand_keeps_fits {c : HostCommand} (hi : t.Inv) (hf : s.Fits width)
    (ho : ∀ o, c = .start o → o.Fits width) (hstep : hostCommand c s = .next t) :
    t.Fits width := by
  have hpos := Nat.two_pow_pos width
  rcases hostCommand_cases c s with ⟨o, -, -, he⟩ | ⟨o, rfl, -, he⟩ | ⟨-, he⟩ | ⟨-, he⟩ <;>
    rw [he] at hstep <;> cases hstep
  · obtain ⟨hstart, hlen, hmax⟩ := ho o rfl
    exact hi.fits hstart hlen hmax hf.hdrStart hf.outStart
  · exact hf.of_registers hi (sameConfig_pull s) (.inl s.pull_hdrStart) (.inl (by simp))
  · exact hi.fits hpos hpos hpos hpos hpos

theorem step_keeps_fits (hi : s.Inv) (hf : s.Fits width) (hnext : s.NextEventFits width)
    (hstep : step s = .next t) : t.Fits width := by
  have hit := step_keeps_inv hi hstep
  rcases step_cases s with ⟨-, he⟩ | ⟨rest, -, he⟩ | ⟨c, rest, hev, he⟩ | ⟨bytes, rest, -, he⟩ <;>
    rw [he] at hstep
  · obtain ⟨hcfg, hhdr, hout⟩ := (seqStep_eq_next_iff.1 hstep).registers
    exact hf.of_registers hit hcfg hhdr hout
  · obtain ⟨hcfg, hhdr, hout⟩ := (seqStep_eq_next_iff.1 hstep).registers
    exact hf.of_registers hit { hcfg with } hhdr hout
  · exact hostCommand_keeps_fits (s := { s with hostEvents := rest }) hit { hf with }
      (fun o ho => hnext o rest (ho ▸ hev)) hstep
  · cases hstep
    exact { hf with }

/-! ## The records of a buffer (43_sequencer.md R316) -/

theorem acceptAt_of_no_sync (hsync : syncB b c = some false) : acceptAt b n c = none := by
  simp [acceptAt, hsync]

theorem acceptAt_of_rejected (hsync : syncB b c = some true) (hw : fetch32 b c = some w)
    (hrej : ∀ h l, decodeLen w = .ok (h, l) → l = 0 ∨ n < c + l) : acceptAt b n c = none := by
  cases hdec : decodeLen w with
  | error e => simp [acceptAt, hsync, hw, hdec]
  | ok p => simp [acceptAt, hsync, hw, hdec, hrej p.1 p.2 hdec]

theorem acceptAt_of_emitted (hroom : c + 4 ≤ n) (hsync : syncB b c = some true)
    (hw : fetch32 b c = some w) (hdec : decodeLen w = .ok (h, l)) (hl : l ≠ 0) (hfit : c + l ≤ n) :
    acceptAt b n c = some ⟨w, c, BitVec.ofNat 11 l⟩ := by
  simp [acceptAt, hroom.not_gt, hsync, hw, hdec, hl, hfit.not_gt]

/-- What a record says of the offset it is accepted at. -/
structure AcceptedAt (b : Buffer) (n c : Nat) (r : FrameRecord) : Prop where
  start : r.start = c
  sync : syncB b c = some true
  word : fetch32 b c = some r.word
  consistent : r.Consistent
  fits : c + r.length.toNat ≤ n

theorem acceptedAt_of_acceptAt (hacc : acceptAt b n c = some r) : AcceptedAt b n c r := by
  unfold acceptAt at hacc
  split at hacc
  · cases hacc
  split at hacc
  next w hsync hw =>
    split at hacc
    next h l hdec =>
      split at hacc
      · cases hacc
      next hok =>
        cases hacc
        obtain ⟨hl, hfit⟩ := not_or.1 hok
        obtain ⟨hlo, hhi⟩ := length_bounds_of_ne_zero hdec hl
        have hlen := ofNat_length (decodeLen_length_lt hdec)
        exact ⟨rfl, hsync, hw, emitted_consistent hdec hlo hhi, by simp only [hlen]; omega⟩
    next => cases hacc
  next => cases hacc

/-- A record is at least 96 bytes long and lies inside the buffer (43_sequencer.md R319). -/
theorem acceptAt_bounds (hacc : acceptAt b n c = some r) :
    r.start = c ∧ 96 ≤ r.length.toNat ∧ c + r.length.toNat ≤ n := by
  obtain ⟨hstart, -, -, ⟨-, hlo, -⟩, hfits⟩ := acceptedAt_of_acceptAt hacc
  exact ⟨hstart, hlo, hfits⟩

/-- The record found is that of the least accepted offset. -/
theorem firstAccepted_least (hfirst : firstAccepted b n k c = some r) :
    c ≤ r.start ∧ acceptAt b n r.start = some r ∧
      ∀ c', c ≤ c' → c' < r.start → acceptAt b n c' = none := by
  induction k generalizing c with
  | zero => cases hfirst
  | succ k ih =>
    unfold firstAccepted at hfirst
    split at hfirst
    next r' hacc =>
      cases hfirst
      obtain ⟨hstart, -⟩ := acceptAt_bounds hacc
      exact ⟨hstart.ge, hstart.symm ▸ hacc, fun c' hlo hhi => by omega⟩
    next hnone =>
      obtain ⟨hle, hacc, hleast⟩ := ih hfirst
      refine ⟨by omega, hacc, fun c' hlo hhi => ?_⟩
      rcases hlo.eq_or_lt with rfl | hlt
      · exact hnone
      · exact hleast c' hlt hhi

theorem firstAccepted_bounds (hfirst : firstAccepted b n k c = some r) :
    c ≤ r.start ∧ 96 ≤ r.length.toNat ∧ r.start + r.length.toNat ≤ n := by
  obtain ⟨hle, hacc, -⟩ := firstAccepted_least hfirst
  obtain ⟨-, hlo, hfits⟩ := acceptAt_bounds hacc
  exact ⟨hle, hlo, hfits⟩

theorem firstAccepted_of_end (hend : n < c + 4) : firstAccepted b n k c = none := by
  by_contra hsome
  obtain ⟨r, hfirst⟩ := Option.ne_none_iff_exists'.1 hsome
  obtain ⟨hle, hlo, hfits⟩ := firstAccepted_bounds hfirst
  omega

/-- Fuel for every offset left is enough: each record takes the cursor on. -/
theorem framesUpTo_fuel {k' : Nat} (hk : n - c < k) (hk' : n - c < k') :
    framesUpTo b n en mx k c m = framesUpTo b n en mx k' c m := by
  induction k generalizing k' c m with
  | zero => omega
  | succ k ih =>
    obtain ⟨k', rfl⟩ := Nat.exists_eq_add_one_of_ne_zero (show k' ≠ 0 by omega)
    cases hfirst : firstAccepted b n (n - c) c with
    | none => simp only [framesUpTo, hfirst]
    | some r =>
      obtain ⟨hle, hlo, hfits⟩ := firstAccepted_bounds hfirst
      simp only [framesUpTo, hfirst]
      rw [ih (k' := k') (by omega) (by omega)]

theorem framesFrom_of_limit (hl : (en && decide (mx ≤ m)) = true) :
    framesFrom b n en mx c m = [] :=
  if_pos hl

theorem framesFrom_of_end (hend : n < c + 4) : framesFrom b n en mx c m = [] := by
  simp [framesFrom, framesUpTo, firstAccepted_of_end hend]

/-- An offset that is not accepted is passed by. -/
theorem framesFrom_of_rejected (hnone : acceptAt b n c = none) :
    framesFrom b n en mx c m = framesFrom b n en mx (c + 1) m := by
  have hnext : firstAccepted b n (n - c) c = firstAccepted b n (n - (c + 1)) (c + 1) := by
    by_cases hc : c < n
    · rw [show n - c = n - (c + 1) + 1 by omega, firstAccepted, hnone]
    · rw [firstAccepted_of_end (by omega), firstAccepted_of_end (by omega)]
  simp only [framesFrom, framesUpTo, hnext]

/-- Below the limit an accepted offset gives its record, and the rest starts at the record's end. -/
theorem framesFrom_of_accepted (hl : (en && decide (mx ≤ m)) = false)
    (hacc : acceptAt b n c = some r) :
    framesFrom b n en mx c m = r :: framesFrom b n en mx (c + r.length.toNat) (m + 1) := by
  obtain ⟨rfl, hlo, hfits⟩ := acceptAt_bounds hacc
  have hfirst : firstAccepted b n (n - r.start) r.start = some r := by
    rw [show n - r.start = n - r.start - 1 + 1 by omega, firstAccepted, hacc]
  rw [framesFrom, framesUpTo, hl, if_neg Bool.false_ne_true, hfirst]
  simp only
  rw [framesFrom, framesUpTo_fuel (k' := n + 1) (by omega) (by omega)]

/-- The first of the records are the records with less fuel. -/
theorem exists_framesUpTo_of_isPrefix (hpre : frames <+: framesUpTo b n en mx k c m) :
    ∃ j, frames = framesUpTo b n en mx j c m := by
  induction k generalizing frames c m with
  | zero => exact ⟨0, List.prefix_nil.1 hpre⟩
  | succ k ih =>
    cases frames with
    | nil => exact ⟨0, rfl⟩
    | cons r rest =>
      unfold framesUpTo at hpre
      split at hpre
      · cases List.prefix_nil.1 hpre
      next hl =>
        split at hpre
        · cases List.prefix_nil.1 hpre
        next r' hfirst =>
          obtain ⟨rfl, hrest⟩ := List.cons_prefix_cons.1 hpre
          obtain ⟨j, rfl⟩ := ih hrest
          exact ⟨j + 1, by simp [framesUpTo, hl, hfirst]⟩

/-- The records are in order, do not overlap, and each is the least accepted one after the last
(43_sequencer.md R319 (a), (c)). -/
theorem framesUpTo_ordered :
    Ascending c (framesUpTo b n en mx k c m) ∧
      LeastAccepted b n c (framesUpTo b n en mx k c m) := by
  induction k generalizing c m with
  | zero => exact ⟨trivial, trivial⟩
  | succ k ih =>
    unfold framesUpTo
    split
    · exact ⟨trivial, trivial⟩
    split
    · exact ⟨trivial, trivial⟩
    next r hfirst =>
      obtain ⟨hle, hacc, hleast⟩ := firstAccepted_least hfirst
      exact ⟨⟨hle, ih.1⟩, hacc, hleast, ih.2⟩

/-- With the limit on there are no more records than it leaves (43_sequencer.md R319 (d)). -/
theorem length_framesUpTo_le : (framesUpTo b n true mx k c m).length ≤ mx - m := by
  induction k generalizing c m with
  | zero => exact Nat.zero_le _
  | succ k ih =>
    unfold framesUpTo
    split
    · exact Nat.zero_le _
    next hl =>
      split
      · exact Nat.zero_le _
      next r _ =>
        have hrest := ih (c := r.start + r.length.toNat) (m := m + 1)
        simp only [Bool.true_and, decide_eq_true_eq] at hl
        rw [List.length_cons]
        omega

theorem acceptAt_of_mem (hleast : LeastAccepted b n c frames) (hr : r ∈ frames) :
    acceptAt b n r.start = some r := by
  induction frames generalizing c with
  | nil => cases hr
  | cons r' rest ih =>
    obtain ⟨hacc, -, hrest⟩ := hleast
    rcases List.mem_cons.1 hr with rfl | hr
    · exact hacc
    · exact ih hrest hr

/-- The buffer has room for only so many records that do not overlap and are 96 bytes or more
(43_sequencer.md R319 (e)). -/
theorem length_mul_le_of_ascending (hasc : Ascending c frames)
    (hfits : ∀ r ∈ frames, 96 ≤ r.length.toNat ∧ r.start + r.length.toNat ≤ n) :
    96 * frames.length ≤ n - c := by
  induction frames generalizing c with
  | nil => exact Nat.zero_le _
  | cons r rest ih =>
    obtain ⟨hle, hrest⟩ := hasc
    obtain ⟨hlo, hr⟩ := hfits r List.mem_cons_self
    have hlen := ih hrest fun r' hr' => hfits r' (List.mem_cons_of_mem r hr')
    rw [List.length_cons]
    omega

/-! ## Runs (70_reset_and_hazards.md R397) -/

theorem turn_cases (hturn : turn pulls s = some t) :
    (pulls = true ∧ t = State.pull { s with hostEvents := [] }) ∨
      (pulls = false ∧ SeqMove { s with hostEvents := [] } t) := by
  cases pulls with
  | true => exact .inl ⟨rfl, Option.some.inj (hturn.symm.trans (turn_pull s))⟩
  | false => exact .inr ⟨rfl, seqStep_eq_next_iff.1 (seqStep_of_turn hturn)⟩

theorem turn_of_seqMove (hmove : SeqMove { s with hostEvents := [] } t) :
    turn false s = some t :=
  turn_seq (seqStep_eq_next_iff.2 hmove)

theorem exists_turn (pull : Bool) (hread : s.Readable) : ∃ t, turn pull s = some t := by
  cases pull with
  | true => exact ⟨_, turn_pull s⟩
  | false =>
    obtain ⟨t, hmove⟩ := exists_seqMove (s := { s with hostEvents := [] }) hread
    exact ⟨t, turn_of_seqMove hmove⟩

/-- What every turn keeps holds at the end of a run. -/
theorem scanRun_keeps {P : State → Prop} (events : List Bool)
    (hturn : ∀ pull s t, P s → turn pull s = some t → P t) (hs : P s) :
    P (scanRun events s).2 := by
  induction events generalizing s with
  | nil => exact hs
  | cons pull rest ih =>
    unfold scanRun
    split
    · exact hs
    split
    next t ht => exact ih (hturn pull s t hs ht)
    next => exact hs

/-- What holds throughout a run: the buffer is readable, and a candidate is the word at the cursor,
with good sync, latched below the limit. It is the part of `State.Inv` a scan needs, and holds in
every Searching state with a readable buffer. -/
structure State.Scanning (s : State) : Prop where
  readable : s.Readable
  candidate : s.st = .headerFound → s.cursor = s.hdrStart ∧ s.hdrStart + 4 ≤ s.bufLen ∧
    syncB s.buf s.hdrStart = some true ∧ fetch32 s.buf s.hdrStart = some s.hdrWord ∧
    s.limitReached = false

theorem State.Scanning.of_searching (hst : s.st = .searching) (hread : s.Readable) : s.Scanning :=
  ⟨hread, by simp [hst]⟩

theorem SeqMove.keeps_scanning (hs : s.Scanning) (hmove : SeqMove s t) : t.Scanning := by
  cases hmove with
  | found _ hl hroom hsync hw => exact ⟨hs.readable, fun _ => ⟨rfl, hroom, hsync, hw, hl⟩⟩
  | advance hst => exact .of_searching hst hs.readable
  | wait => exact hs
  | _ => exact ⟨hs.readable, nofun⟩

theorem State.Scanning.pull (hs : s.Scanning) : s.pull.Scanning := by
  by_cases hst : s.st = .frameEmitted
  · rw [State.pull_st_frameEmitted s hst]
    exact .of_searching rfl hs.readable
  · rwa [State.pull_other s hst]

theorem turn_keeps_scanning (hs : s.Scanning) (hturn : turn pulls s = some t) : t.Scanning := by
  have hs' : State.Scanning { s with hostEvents := [] } := { hs with }
  rcases turn_cases hturn with ⟨-, rfl⟩ | ⟨-, hmove⟩
  exacts [hs'.pull, hmove.keeps_scanning hs']

/-- The frames still to be presented: those of the big-step function from the cursor on. -/
def State.remaining (s : State) : List FrameRecord :=
  if s.st = .exhausted then []
  else framesFrom s.buf s.bufLen s.limitEn s.maxFrames s.cursor s.frameCount

theorem State.remaining_of_exhausted (hst : s.st = .exhausted) : s.remaining = [] :=
  if_pos hst

theorem State.remaining_of_running (hst : s.st ≠ .exhausted) :
    s.remaining = framesFrom s.buf s.bufLen s.limitEn s.maxFrames s.cursor s.frameCount :=
  if_neg hst

theorem presentedBy_of_not_emitted (ht : t.st ≠ .frameEmitted) : presentedBy s t = [] := by
  simp [presentedBy, ht]

theorem presentedBy_of_emitted (hs : s.st = .frameEmitted) : presentedBy s t = [] := by
  simp [presentedBy, hs]

/-- From `s` to `t` the records `rs` are presented: they come off the frames still to be presented,
and are counted. -/
structure Presents (s : State) (rs : List FrameRecord) (t : State) : Prop where
  records : s.remaining = rs ++ t.remaining
  count : t.frameCount = s.frameCount + rs.length

/-- An event at which no record is presented, from one state of a running scan to another. -/
theorem Presents.passes (hs : s.st ≠ .exhausted) (ht : t.st ≠ .exhausted)
    (hnone : presentedBy s t = []) (hcount : t.frameCount = s.frameCount)
    (hframes : framesFrom s.buf s.bufLen s.limitEn s.maxFrames s.cursor s.frameCount =
      framesFrom t.buf t.bufLen t.limitEn t.maxFrames t.cursor t.frameCount) :
    Presents s (presentedBy s t) t := by
  rw [hnone]
  exact ⟨by rw [State.remaining_of_running hs, State.remaining_of_running ht, hframes]; rfl, hcount⟩

/-- An event that ends a scan with no frame left. -/
theorem Presents.ends (hs : s.st ≠ .exhausted) (ht : t.st = .exhausted)
    (hcount : t.frameCount = s.frameCount)
    (hframes : framesFrom s.buf s.bufLen s.limitEn s.maxFrames s.cursor s.frameCount = []) :
    Presents s (presentedBy s t) t := by
  rw [presentedBy_of_not_emitted (by simp [ht])]
  exact ⟨by rw [State.remaining_of_running hs, State.remaining_of_exhausted ht, hframes]; rfl,
    hcount⟩

/-- An event that changes nothing. -/
theorem Presents.refl (s : State) : Presents s (presentedBy s s) s := by
  rw [show presentedBy s s = [] from if_neg fun h => h.1 h.2]
  exact ⟨rfl, rfl⟩

/-- S.LIMIT and S.EXHAUST end a scan that has no frame left; S.ADVANCE and a rejection pass by an
offset that is not accepted; an emission presents the first frame left (43_sequencer.md R316). -/
theorem SeqMove.presents (hs : s.Scanning) (hmove : SeqMove s t) :
    Presents s (presentedBy s t) t := by
  cases hmove with
  | limit hst hl => exact .ends (by simp [hst]) rfl rfl (framesFrom_of_limit hl)
  | atEnd hst _ hend => exact .ends (by simp [hst]) rfl rfl (framesFrom_of_end hend)
  | advance hst _ _ hsync =>
    exact .passes (by simp [hst]) (by simp [hst]) (presentedBy_of_not_emitted (by simp [hst])) rfl
      (framesFrom_of_rejected (acceptAt_of_no_sync hsync))
  | found hst =>
    exact .passes (by simp [hst]) (by simp) (presentedBy_of_not_emitted (by simp)) rfl rfl
  | reject hst hrej =>
    obtain ⟨hcur, -, hsync, hw, -⟩ := hs.candidate hst
    refine .passes (by simp [hst]) (by simp) (presentedBy_of_not_emitted (by simp)) rfl ?_
    rw [hcur]
    exact framesFrom_of_rejected (acceptAt_of_rejected hsync hw hrej)
  | @emit h l hst hdec hlo hhi hfit =>
    obtain ⟨hcur, hroom, hsync, hw, hl⟩ := hs.candidate hst
    have hacc := acceptAt_of_emitted hroom hsync hw hdec (by omega) hfit
    have hlen := ofNat_length (decodeLen_length_lt hdec)
    rw [show presentedBy s (s.emit l) = [(s.emit l).outFrame] by simp [presentedBy, hst]]
    refine ⟨?_, rfl⟩
    rw [State.remaining_of_running (by simp [hst]), State.remaining_of_running (by simp), hcur,
      framesFrom_of_accepted hl hacc, hlen]
    rfl
  | wait => exact .refl s

theorem presents_pull (s : State) : Presents s (presentedBy s s.pull) s.pull := by
  by_cases hst : s.st = .frameEmitted
  · rw [State.pull_st_frameEmitted s hst]
    exact .passes (by simp [hst]) (by simp) (presentedBy_of_emitted hst) rfl rfl
  · rw [State.pull_other s hst]
    exact .refl s

theorem turn_presents (hs : s.Scanning) (hturn : turn pulls s = some t) :
    Presents s (presentedBy s t) t := by
  have hs' : State.Scanning { s with hostEvents := [] } := { hs with }
  suffices hp : Presents { s with hostEvents := [] } (presentedBy s t) t from ⟨hp.records, hp.count⟩
  rcases turn_cases hturn with ⟨-, rfl⟩ | ⟨-, hmove⟩
  exacts [presents_pull { s with hostEvents := [] }, hmove.presents hs']

/-- The records of a run are the first of the frames to come when it began. -/
theorem scanRun_presents (events : List Bool) (hs : s.Scanning) :
    Presents s (scanRun events s).1 (scanRun events s).2 := by
  induction events generalizing s with
  | nil => exact ⟨rfl, rfl⟩
  | cons pull rest ih =>
    unfold scanRun
    split
    · exact ⟨rfl, rfl⟩
    split
    next t ht =>
      have hfirst := turn_presents hs ht
      have hrest := ih (turn_keeps_scanning hs ht)
      constructor
      · rw [hfirst.records, hrest.records, List.append_assoc]
      · rw [hrest.count, hfirst.count, List.length_append, Nat.add_assoc]
    next => exact ⟨rfl, rfl⟩

/-! ## The end of a run (43_sequencer.md R316, R317) -/

/-- `limit_hit` says that the scan is over and the limit reached (10_state.md R26). -/
def State.LimitSeen (s : State) : Prop :=
  s.limitHit = true ↔ s.st = .exhausted ∧ s.limitReached = true

theorem State.limitSeen_of_running (hst : s.st ≠ .exhausted) :
    s.LimitSeen ↔ s.limitHit = false := by
  simp [State.LimitSeen, hst]

theorem State.LimitSeen.of_running (hseen : s.LimitSeen) (hs : s.st ≠ .exhausted)
    (ht : t.st ≠ .exhausted) (hsame : t.limitHit = s.limitHit) : t.LimitSeen := by
  rw [State.limitSeen_of_running ht, hsame]
  exact (State.limitSeen_of_running hs).1 hseen

theorem SeqMove.keeps_limitSeen (hs : s.LimitSeen) (hmove : SeqMove s t) : t.LimitSeen := by
  cases hmove with
  | limit _ hl => exact iff_of_true rfl ⟨rfl, hl⟩
  | atEnd hst hl =>
    have hhit := (State.limitSeen_of_running (by simp [hst])).1 hs
    exact iff_of_false (by simp [hhit]) fun hlimit => Bool.eq_false_iff.1 hl hlimit.2
  | advance hst | found hst | reject hst | emit hst =>
    exact hs.of_running (by simp [hst]) (by simp [hst]) rfl
  | wait => exact hs

theorem State.LimitSeen.pull (hs : s.LimitSeen) : s.pull.LimitSeen := by
  by_cases hst : s.st = .frameEmitted
  · rw [State.pull_st_frameEmitted s hst]
    exact hs.of_running (by simp [hst]) (by simp) rfl
  · rwa [State.pull_other s hst]

theorem turn_keeps_limitSeen (hs : s.LimitSeen) (hturn : turn pulls s = some t) : t.LimitSeen := by
  have hs' : State.LimitSeen { s with hostEvents := [] } := hs
  rcases turn_cases hturn with ⟨-, rfl⟩ | ⟨-, hmove⟩
  exacts [hs'.pull, hmove.keeps_limitSeen hs']

theorem turn_sameConfig (hturn : turn pulls s = some t) : SameConfig s t := by
  rcases turn_cases hturn with ⟨-, rfl⟩ | ⟨-, hmove⟩
  · exact { sameConfig_pull { s with hostEvents := [] } with }
  · exact { hmove.registers.1 with }

theorem SameConfig.trans {u : State} (hst : SameConfig s t) (htu : SameConfig t u) :
    SameConfig s u :=
  ⟨hst.1.trans htu.1, hst.2.trans htu.2, hst.3.trans htu.3, hst.4.trans htu.4⟩

/-- A run that is over has presented every frame. -/
theorem endsWithFrames_of_exhausted {events : List Bool} (hst : s.st = .searching)
    (hread : s.Readable) (hhit : s.limitHit = false)
    (hover : (scanRun events s).2.st = .exhausted) : EndsWithFrames s (scanRun events s) := by
  have hrunning : s.st ≠ .exhausted := by simp [hst]
  obtain ⟨hrecords, hcount⟩ := scanRun_presents events (.of_searching hst hread)
  have hlimit : (scanRun events s).2.LimitSeen := scanRun_keeps events
    (fun _ _ _ => turn_keeps_limitSeen) ((State.limitSeen_of_running hrunning).2 hhit)
  have hcfg : SameConfig s (scanRun events s).2 := scanRun_keeps (P := SameConfig s) events
    (fun _ _ _ hsame hturn => hsame.trans (turn_sameConfig hturn)) ⟨rfl, rfl, rfl, rfl⟩
  refine ⟨?_, hover, hcount, ?_⟩
  · rw [← State.remaining_of_running hrunning, hrecords, State.remaining_of_exhausted hover,
      List.append_nil]
  · rw [State.LimitSeen, State.limitReached_iff, ← hcfg.limitEn, ← hcfg.maxFrames] at hlimit
    exact hlimit.trans (and_iff_right hover)

/-- A bound on the events left when the host pulls every record: two for each byte left, and one. A
Pull is paid for by the bytes of the frame it takes. -/
def State.stepsLeft (s : State) : Nat :=
  match s.st with
  | .searching => 2 * (s.bufLen - s.cursor) + 1
  | .headerFound => 2 * (s.bufLen - s.cursor)
  | .frameEmitted => 2 * (s.bufLen - s.cursor) + 2
  | .exhausted => 0

theorem SeqMove.stepsLeft_lt (hs : s.Scanning)
    (hst : s.st = .searching ∨ s.st = .headerFound) (hmove : SeqMove s t) :
    t.stepsLeft < s.stepsLeft := by
  cases hmove with
  | limit hst | atEnd hst => simp [State.stepsLeft, hst]
  | advance hst _ hroom =>
    simp only [State.stepsLeft, State.advance_st, hst, State.advance_cursor, State.advance_bufLen]
    omega
  | found hst => simp [State.stepsLeft, hst]
  | reject hst =>
    obtain ⟨hcur, hroom, -⟩ := hs.candidate hst
    simp only [State.stepsLeft, hst, State.resync_st, State.resync_cursor, State.resync_bufLen]
    omega
  | emit hst _ hlo _ hfit =>
    obtain ⟨hcur, -⟩ := hs.candidate hst
    simp only [State.stepsLeft, hst, State.emit_st, State.emit_cursor, State.emit_bufLen]
    omega
  | wait hwait => rcases hst with hst | hst <;> simp [hst] at hwait

theorem turn_stepsLeft_lt (hs : s.Scanning) (hst : s.st ≠ .exhausted)
    (hturn : turn (s.st == .frameEmitted) s = some t) : t.stepsLeft < s.stepsLeft := by
  have hs' : State.Scanning { s with hostEvents := [] } := { hs with }
  rcases turn_cases hturn with ⟨hpull, rfl⟩ | ⟨hseq, hmove⟩
  · have hemit : s.st = .frameEmitted := beq_iff_eq.1 hpull
    rw [State.pull_st_frameEmitted { s with hostEvents := [] } hemit]
    simp [State.stepsLeft, hemit]
  · refine SeqMove.stepsLeft_lt (s := { s with hostEvents := [] }) hs' ?_ hmove
    have hne : s.st ≠ .frameEmitted := beq_eq_false_iff_ne.1 hseq
    rcases seqState_cases s with h | h | h | h
    exacts [.inl h, .inr h, absurd h hne, absurd h hst]

theorem pullRun_ends (hs : s.Scanning) (hk : s.stepsLeft ≤ k) :
    (pullRun k s).2.st = .exhausted := by
  induction k generalizing s with
  | zero =>
    by_contra hst
    obtain ⟨t, hturn⟩ := exists_turn (s.st == .frameEmitted) hs.readable
    have := turn_stepsLeft_lt hs hst hturn
    omega
  | succ k ih =>
    by_cases hst : s.st = .exhausted
    · rwa [pullRun_exhausted (k + 1) hst]
    · obtain ⟨t, hturn⟩ := exists_turn (s.st == .frameEmitted) hs.readable
      have hlt := turn_stepsLeft_lt hs hst hturn
      rw [pullRun_succ hst hturn]
      exact ih (turn_keeps_scanning hs hturn) (by omega)

/-- A presented record waits until the host pulls (43_sequencer.md R317). -/
theorem scanRun_waits (hst : s.st = .frameEmitted) :
    (scanRun (List.replicate k false) s).1 = [] ∧
      (scanRun (List.replicate k false) s).2.st = .frameEmitted ∧
      (scanRun (List.replicate k false) s).2.outFrame = s.outFrame := by
  induction k generalizing s with
  | zero => exact ⟨rfl, hst, rfl⟩
  | succ k ih =>
    have hturn : turn false s = some { s with hostEvents := [] } :=
      turn_of_seqMove (.wait (.inl hst))
    obtain ⟨hnone, hwait, hout⟩ := ih (s := { s with hostEvents := [] }) hst
    rw [List.replicate_succ, scanRun_cons (by simp [hst]) hturn, presentedBy_of_emitted hst]
    exact ⟨hnone, hwait, hout⟩

/-! ## Two runs on the same buffer (43_sequencer.md R324) -/

/-- The two states differ in nothing their scans depend on: a candidate is the same where there is
one, and a record where one is presented. -/
structure SameRun (s t : State) : Prop extends SameScan s t where
  limitHit : s.limitHit = t.limitHit
  candidate : s.st = .headerFound → s.hdrStart = t.hdrStart ∧ s.hdrWord = t.hdrWord
  record : s.st = .frameEmitted → s.outFrame = t.outFrame

theorem SameRun.symm (hrun : SameRun s t) : SameRun t s where
  st := hrun.st.symm
  cursor := hrun.cursor.symm
  bufLen := hrun.bufLen.symm
  limitEn := hrun.limitEn.symm
  maxFrames := hrun.maxFrames.symm
  frameCount := hrun.frameCount.symm
  buf := hrun.buf.symm
  limitHit := hrun.limitHit.symm
  candidate := fun hst => (hrun.candidate (hrun.st.trans hst)).imp Eq.symm Eq.symm
  record := fun hst => (hrun.record (hrun.st.trans hst)).symm

theorem SameRun.limitReached_eq (hrun : SameRun s t) : t.limitReached = s.limitReached := by
  simp only [State.limitReached, hrun.limitEn, hrun.maxFrames, hrun.frameCount]

/-- What SEQ does in one of the two states it does in the other. -/
theorem SeqMove.exists_sameRun (hrun : SameRun s t) (hmove : SeqMove s s') :
    ∃ t', SeqMove t t' ∧ SameRun s' t' := by
  have hl := hrun.limitReached_eq
  have hcur := hrun.cursor
  have hlen := hrun.bufLen
  have hbuf := hrun.buf
  cases hmove with
  | limit hst hlim =>
    exact ⟨_, .limit (hrun.st ▸ hst) (hl.trans hlim),
      { hrun with st := rfl, limitHit := rfl, candidate := nofun, record := nofun }⟩
  | atEnd hst hlim hend =>
    exact ⟨_, .atEnd (hrun.st ▸ hst) (hl.trans hlim) (by omega),
      { hrun with st := rfl, candidate := nofun, record := nofun }⟩
  | advance hst hlim hroom hsync =>
    exact ⟨_, .advance (hrun.st ▸ hst) (hl.trans hlim) (by omega) (hbuf ▸ hcur ▸ hsync),
      { hrun with cursor := congrArg (· + 1) hcur }⟩
  | found hst hlim hroom hsync hw =>
    exact ⟨_, .found (hrun.st ▸ hst) (hl.trans hlim) (by omega) (hbuf ▸ hcur ▸ hsync)
      (hbuf ▸ hcur ▸ hw),
      { hrun with st := rfl, candidate := fun _ => ⟨hcur, rfl⟩, record := nofun }⟩
  | reject hst hrej =>
    obtain ⟨hstart, hword⟩ := hrun.candidate hst
    exact ⟨_, .reject (hrun.st ▸ hst) (hword ▸ hstart ▸ hlen ▸ hrej),
      { hrun with
        cursor := congrArg (· + 1) hstart
        st := rfl
        candidate := nofun
        record := nofun }⟩
  | @emit _ l hst hdec hlo hhi hfit =>
    obtain ⟨hstart, hword⟩ := hrun.candidate hst
    exact ⟨_, .emit (hrun.st ▸ hst) (hword ▸ hdec) hlo hhi (by omega),
      { hrun with
        cursor := congrArg (· + l) hstart
        frameCount := congrArg (· + 1) hrun.frameCount
        st := rfl
        candidate := nofun
        record := fun _ => by simp [State.emit, hstart, hword] }⟩
  | wait hst => exact ⟨t, .wait (hrun.st ▸ hst), hrun⟩

theorem SameRun.pull (hrun : SameRun s t) : SameRun s.pull t.pull := by
  by_cases hst : s.st = .frameEmitted
  · rw [State.pull_st_frameEmitted s hst, State.pull_st_frameEmitted t (hrun.st ▸ hst)]
    exact { hrun with st := rfl, candidate := nofun, record := nofun }
  · rwa [State.pull_other s hst, State.pull_other t (hrun.st ▸ hst)]

theorem exists_turn_of_sameRun (hrun : SameRun s t) (hturn : turn pulls s = some s') :
    ∃ t', turn pulls t = some t' ∧ SameRun s' t' := by
  have hrun' : SameRun { s with hostEvents := [] } { t with hostEvents := [] } := { hrun with }
  rcases turn_cases hturn with ⟨rfl, rfl⟩ | ⟨rfl, hmove⟩
  · exact ⟨_, turn_pull t, hrun'.pull⟩
  · obtain ⟨t', hmove', hnext⟩ := hmove.exists_sameRun hrun'
    exact ⟨t', turn_of_seqMove hmove', hnext⟩

theorem presentedBy_eq_of_sameRun {t' : State} (hrun : SameRun s t) (hnext : SameRun s' t') :
    presentedBy s s' = presentedBy t t' := by
  by_cases hpres : s.st ≠ .frameEmitted ∧ s'.st = .frameEmitted
  · rw [presentedBy, if_pos hpres, presentedBy, if_pos (hrun.st ▸ hnext.st ▸ hpres),
      hnext.record hpres.2]
  · rw [presentedBy, if_neg hpres, presentedBy, if_neg (hrun.st ▸ hnext.st ▸ hpres)]

/-- Neither machine stops before the other, and they present the same record. -/
theorem turn_cases_of_sameRun (hrun : SameRun s t) (pull : Bool) :
    (turn pull s = none ∧ turn pull t = none) ∨
      ∃ s' t', turn pull s = some s' ∧ turn pull t = some t' ∧ SameRun s' t' ∧
        presentedBy s s' = presentedBy t t' := by
  cases hs : turn pull s with
  | some s' =>
    obtain ⟨t', ht, hnext⟩ := exists_turn_of_sameRun hrun hs
    exact .inr ⟨s', t', rfl, ht, hnext, presentedBy_eq_of_sameRun hrun hnext⟩
  | none =>
    cases ht : turn pull t with
    | none => exact .inl ⟨rfl, rfl⟩
    | some t' =>
      obtain ⟨s', hs', -⟩ := exists_turn_of_sameRun hrun.symm ht
      cases hs.symm.trans hs'

/-- A run that is over, or has no event left, in two such states. -/
theorem SameRun.result (hrun : SameRun s t) : SameResult ([], s) ([], t) :=
  ⟨rfl, hrun.frameCount, hrun.limitHit, by simp only [endStatus, hrun.st, hrun.frameCount]⟩

/-- One more event before two runs with the same result. -/
theorem sameResult_cons {p q : List FrameRecord × State} {rs rs' : List FrameRecord}
    (hsame : SameResult p q) (hrs : rs = rs') :
    SameResult (rs ++ p.1, p.2) (rs' ++ q.1, q.2) :=
  { hsame with records := by rw [hrs, hsame.records] }

theorem scanRun_sameResult (hrun : SameRun s t) (events : List Bool) :
    SameResult (scanRun events s) (scanRun events t) := by
  induction events generalizing s t with
  | nil => exact hrun.result
  | cons pull rest ih =>
    by_cases hst : s.st = .exhausted
    · rw [scanRun_exhausted _ hst, scanRun_exhausted _ (hrun.st ▸ hst)]
      exact hrun.result
    rcases turn_cases_of_sameRun hrun pull with ⟨hs, ht⟩ | ⟨s', t', hs, ht, hnext, hpres⟩
    · simpa [scanRun, hs, ht] using hrun.result
    · rw [scanRun_cons hst hs, scanRun_cons (hrun.st ▸ hst) ht]
      exact sameResult_cons (ih hnext) hpres

theorem pullRun_sameResult (hrun : SameRun s t) (k : Nat) :
    SameResult (pullRun k s) (pullRun k t) := by
  induction k generalizing s t with
  | zero => exact hrun.result
  | succ k ih =>
    by_cases hst : s.st = .exhausted
    · rw [pullRun_exhausted _ hst, pullRun_exhausted _ (hrun.st ▸ hst)]
      exact hrun.result
    rcases turn_cases_of_sameRun hrun (s.st == .frameEmitted) with
      ⟨hs, ht⟩ | ⟨s', t', hs, ht, hnext, hpres⟩
    · simpa [pullRun, hs, hrun.st ▸ ht] using hrun.result
    · rw [pullRun_succ hst hs, pullRun_succ (hrun.st ▸ hst) (hrun.st ▸ ht)]
      exact sameResult_cons (ih hnext) hpres

/-- A Start leaves no trace of the past in what its scan depends on. -/
theorem sameRun_start (o : StartOperands) (hloaded : s.loaded = t.loaded) :
    SameRun (s.start o) (t.start o) :=
  ⟨⟨rfl, rfl, rfl, rfl, rfl, rfl, hloaded⟩, rfl, nofun, nofun⟩

end sequencer

/-! ## The obligations -/

/-- Settles O55: the invariant bounds the cursor and the count by the configuration, and the other
registers take what a register or an operand held. -/
theorem offsetsNeverOutgrowTheirWidth : Obligations.OffsetsNeverOutgrowTheirWidth := by
  intro width s t hwidth hi hf hnext hstep
  have hpow : 2 ^ 12 ≤ 2 ^ width := Nat.pow_le_pow_right (by decide) hwidth
  have hcursor := hf.cursor
  have hhdr := hf.hdrStart
  refine ⟨step_keeps_fits hi hf hnext hstep, by rw [Nat.pow_succ]; omega, fun h l hd => ?_⟩
  have hl := decodeLen_length_lt hd
  rw [Nat.pow_succ]
  omega

/-- Settles O57: every event of the run lowers `State.stepsLeft`. -/
theorem scanEndsWithinItsBound : Obligations.ScanEndsWithinItsBound := by
  refine ⟨fun s hst hread => ⟨s.stepsLeft, ?_, ?_⟩, fun s n => scanRun_waits⟩
  · simp only [State.stepsLeft, hst]
    omega
  · exact pullRun_ends (.of_searching hst hread) (Nat.le_refl _)

/-- Settles O58: the records presented and those still to come are together those of the big-step
function, and none is to come when the run is over, as it is with every record pulled. -/
theorem scanPresentsExactlyTheFrames : Obligations.ScanPresentsExactlyTheFrames := by
  intro s hst hread hhit
  have hs : s.Scanning := .of_searching hst hread
  refine ⟨⟨s.stepsLeft, fun n hn => ?_⟩, fun events => ⟨?_, ?_⟩⟩
  · have hover := pullRun_ends hs hn
    obtain ⟨events, hrun⟩ := pullRun_eq_scanRun n s
    rw [hrun] at hover ⊢
    exact endsWithFrames_of_exhausted hst hread hhit hover
  · rw [← State.remaining_of_running (by simp [hst]), (scanRun_presents events hs).records]
    exact List.prefix_append _ _
  · exact endsWithFrames_of_exhausted hst hread hhit

/-- Settles O59: the frames of any run are the first ones of the big-step function, and the five
facts hold of these. -/
theorem framesOfAScanAreOrderedAndFit : Obligations.FramesOfAScanAreOrderedAndFit := by
  rintro s0 o events frames hread rfl
  have hs : (s0.start o).Scanning := .of_searching rfl hread
  have hpre : (scanRun events (s0.start o)).1 <+:
      framesFrom s0.loaded o.bufLen o.limitEn o.maxFrames o.startOffset 0 := by
    have hrecords := (scanRun_presents events hs).records
    rw [State.remaining_of_running (by simp)] at hrecords
    exact ⟨_, hrecords.symm⟩
  obtain ⟨j, hj⟩ := exists_framesUpTo_of_isPrefix hpre
  rw [hj]
  obtain ⟨hasc, hleast⟩ := framesUpTo_ordered (b := s0.loaded) (n := o.bufLen) (en := o.limitEn)
    (mx := o.maxFrames) (k := j) (c := o.startOffset) (m := 0)
  have hacc := fun r hr => acceptedAt_of_acceptAt (acceptAt_of_mem (r := r) hleast hr)
  refine ⟨hasc, fun r hr => ?_, hleast, fun hen => ?_, ?_⟩
  · obtain ⟨-, hsync, hword, hcons, hfits⟩ := hacc r hr
    have hlo := hcons.2.1
    exact ⟨hsync, hword, hcons, by omega, hfits⟩
  · rw [hen]
    exact length_framesUpTo_le
  · have hlen := length_mul_le_of_ascending hasc
      fun r hr => ⟨(hacc r hr).consistent.2.1, (hacc r hr).fits⟩
    omega

/-- Settles O60: a Start makes the two states agree on all a scan depends on, and every turn keeps
them so. -/
theorem scansAreIndependentOfThePast : Obligations.ScansAreIndependentOfThePast := by
  intro s t o hloaded
  have hsame := sameRun_start o hloaded
  exact ⟨scanRun_sameResult hsame, pullRun_sameResult hsame⟩

/-- Settles O30: both sides are the outcome of the length `DECODE_LEN` gives. -/
theorem classMeaningsAgreeWithDecodeLen : Obligations.ClassMeaningsAgreeWithDecodeLen := by
  intro s
  cases hdec : decodeLen s.hdrWord with
  | error e => exact exec_decode_of_error hdec s
  | ok p =>
    obtain ⟨h, l⟩ := p
    rw [exec_decode_of_ok hdec]
    by_cases hl : l = 0
    · simp only [if_pos hl]
      exact headerDecoded_rejected (.inl hl)
    by_cases hover : s.hdrStart + l > s.bufLen
    · simp only [if_neg hl, if_pos hover]
      exact headerDecoded_rejected (.inr hover)
    · simp only [if_neg hl, if_neg hover]
      exact headerDecoded_emitted hl (Nat.not_lt.1 hover)

/-- Settles O33: a class is that of its own word, whose candidate is rejected or emitted. -/
theorem numericClassesFrame : Obligations.NumericClassesFrame := by
  intro r hr f s t hstep
  have hwf : (decodeSynced r.bri r.sri f).wellFormed = true := wellFormed_decodeSynced _ _ _
  rw [build_of_mem_numericRows hr, ← decodeOfEncodeIsTheInstruction _ hwf] at hstep
  rcases exec_decode_cases _ s with he | ⟨h, l, hdec, -, -, -, he⟩ <;>
    rw [he] at hstep <;> cases hstep
  · exact ⟨⟨⟨rfl, rfl, rfl, rfl⟩, rfl, rfl, rfl, rfl, fun _ => rfl, rfl, rfl⟩, .inl ⟨rfl, rfl,
      ⟨rfl, rfl, rfl, rfl⟩, rfl, rfl, rfl, rfl, rfl, rfl, fun _ => rfl, rfl, rfl⟩⟩
  · have hlen := ofNat_length (decodeLen_length_lt hdec)
    exact ⟨⟨⟨rfl, rfl, rfl, rfl⟩, rfl, rfl, rfl, rfl, fun _ => rfl, rfl, rfl⟩,
      .inr ⟨rfl, rfl, rfl, rfl, congrArg (s.hdrStart + ·) hlen.symm⟩⟩

/-- Settles O36: each row is a move of SEQ; where the buffer has no room left the table does not
look at the sync test. -/
theorem transitionTable : Obligations.TransitionTable := by
  intro s hread
  refine ⟨fun hst => ?_, fun hst => ?_, fun hst => ?_, fun hst => ?_⟩
  · by_cases hroom : s.cursor + 4 ≤ s.bufLen
    · obtain ⟨w, hw, hsync⟩ := syncOnBytesIsSyncOnTheWord s.buf s.cursor (hroom.trans hread)
      refine ⟨syncW w, ?_, fun _ => ⟨hsync, by simp [hw]⟩⟩
      by_cases hl : s.limitEn = true ∧ s.frameCount ≥ s.maxFrames
      · rw [if_pos hl]
        exact seqStep_eq_next_iff.2 (.limit hst (s.limitReached_iff.2 hl))
      rw [if_neg hl, if_neg hroom.not_gt, hw]
      have hl' := limitReached_eq_false_iff.2 hl
      cases hsw : syncW w with
      | true => exact seqStep_eq_next_iff.2 (.found hst hl' hroom (hsw ▸ hsync) hw)
      | false => exact seqStep_eq_next_iff.2 (.advance hst hl' hroom (hsw ▸ hsync))
    · refine ⟨false, ?_, fun h => absurd h hroom⟩
      by_cases hl : s.limitEn = true ∧ s.frameCount ≥ s.maxFrames
      · rw [if_pos hl]
        exact seqStep_eq_next_iff.2 (.limit hst (s.limitReached_iff.2 hl))
      · rw [if_neg hl, if_pos (Nat.not_le.1 hroom)]
        exact seqStep_eq_next_iff.2
          (.atEnd hst (limitReached_eq_false_iff.2 hl) (Nat.not_le.1 hroom))
  · rw [seqStep_of_headerFound hst]
    cases hdec : decodeLen s.hdrWord with
    | error e => exact exec_decode_of_error hdec s
    | ok p => exact exec_decode_of_ok hdec s
  · exact ⟨State.pull_st_frameEmitted s hst, seqStep_of_waiting (.inl hst)⟩
  · exact ⟨State.pull_other s (by simp [hst]), seqStep_of_waiting (.inr hst)⟩

/-- Settles O37: the limit is the first test of a Searching step, and the invariant bounds the
count. -/
theorem limitEndsTheScan : Obligations.LimitEndsTheScan := by
  refine ⟨fun s hst hen hmax => ?_, fun s o hen hmax => ?_, fun s t hi hstep =>
    (step_keeps_inv hi hstep).withinLimit⟩
  · have hl := s.limitReached_iff.2 ⟨hen, hmax⟩
    exact ⟨seqStep_eq_next_iff.2 (.limit hst hl), seqReads_of_limit hst hl⟩
  · have hl := (s.start o).limitReached_iff.2 ⟨hen, hmax.le⟩
    exact seqStep_eq_next_iff.2 (.limit rfl hl)

/-- Settles O39: the word at the cursor is readable and starts with the bytes of the sync test. -/
theorem syncLatchesTheCandidate : Obligations.SyncLatchesTheCandidate := by
  intro s hst hread hlimit hroom hsync
  have hl := limitReached_eq_false_iff.2 hlimit
  obtain ⟨w, hw, hsyncW⟩ := syncOnBytesIsSyncOnTheWord s.buf s.cursor (hroom.trans hread)
  refine ⟨w, hw, Option.some.inj (hsyncW.symm.trans hsync),
    seqStep_eq_next_iff.2 (.found hst hl hroom hsync hw), ?_⟩
  rw [seqReads_of_room hst hl hroom, if_pos hsync]

/-- Settles O51: a step of SEQ, a Pull and a load leave the configuration. -/
theorem configurationIsLatchedAtStart : Obligations.ConfigurationIsLatchedAtStart := by
  intro s t hstep hstart hreset hboth
  rcases step_cases s with ⟨-, he⟩ | ⟨rest, -, he⟩ | ⟨c, rest, hev, he⟩ | ⟨bytes, rest, -, he⟩ <;>
    rw [he] at hstep
  · exact (seqStep_eq_next_iff.1 hstep).registers.1
  · exact { (seqStep_eq_next_iff.1 hstep).registers.1 with }
  · cases c with
    | reset => exact absurd hev (hreset rest)
    | start o => exact absurd hev (hstart o rest)
    | resetWithStart o => exact absurd hev (hboth o rest)
    | pull =>
      cases hstep
      exact { sameConfig_pull { s with hostEvents := rest } with }
  · cases hstep
    exact ⟨rfl, rfl, rfl, rfl⟩

/-- Settles O56: a candidate stands at the cursor, and an emitted frame has 96 bytes or more. -/
theorem cursorGrowsBetweenSearches : Obligations.CursorGrowsBetweenSearches := by
  intro s t hi hstep
  have hcur := fun hst => (hi.candidate hst).1
  cases seqStep_eq_next_iff.1 hstep with
  | limit hst => simp [hst]
  | atEnd hst => simp [hst]
  | advance hst => simp [hst]
  | found hst => simp [hst]
  | reject hst => simp [hst, hcur hst]
  | emit hst _ hlo =>
    simp [hst, hcur hst, hlo]
  | wait hst => rcases hst with hst | hst <;> simp [hst]

/-- Settles O34: SEQ's step in `HeaderFound` is `exec` of the latched word's class. -/
theorem stepRunsTheLatchedWord : Obligations.StepRunsTheLatchedWord := by
  intro s hturn hst
  rw [step_of_seqTurn hturn]
  exact seqStep_of_headerFound (s := { s with hostEvents := s.laterEvents }) hst

/-- Settles O35: S.FOUND latches the word of the four bytes, and `decode` gives its class. -/
theorem fetchThenRunTheDecodedInstruction : Obligations.FetchThenRunTheDecodedInstruction := by
  intro s b0 b1 b2 b3 i hev hst hlimit hroom hread hdec hsync
  have hw : fetch32 s.buf s.cursor = some (assemble b0 b1 b2 b3) := by simp [fetch32, hread]
  have hgood : syncB s.buf s.cursor = some true := by
    rw [syncB_of_fetch32 hw, syncW_assemble, hsync]
  obtain ⟨hi, -⟩ := Prod.mk.inj (Except.ok.inj hdec)
  have hfound : seqStep s = .next (s.found (assemble b0 b1 b2 b3)) :=
    seqStep_eq_next_iff.2 (.found hst (limitReached_eq_false_iff.2 hlimit) hroom hgood hw)
  refine ⟨_, ?_, rfl, ?_⟩
  · rw [← State.found, ← hfound]
    simp [step, hev]
  · rw [← hi]
    simp [step, hev, seqStep]

/-- Settles O38: without room for a header a Searching step ends the scan and reads nothing. -/
theorem endOfBufferEndsTheScan : Obligations.EndOfBufferEndsTheScan :=
  fun _ hst hlimit hend =>
    ⟨seqStep_eq_next_iff.2 (.atEnd hst (limitReached_eq_false_iff.2 hlimit) hend),
      seqReads_of_end hst hend⟩

/-- Settles O40: the search goes on one byte later, inside the buffer. -/
theorem noSyncAdvancesOneByte : Obligations.NoSyncAdvancesOneByte := by
  intro s hst hlimit hroom hsync
  have hl := limitReached_eq_false_iff.2 hlimit
  refine ⟨seqStep_eq_next_iff.2 (.advance hst hl hroom hsync), by omega, ?_⟩
  simp [seqReads_of_room hst hl hroom, hsync]

/-- Settles O41: SEQ has no step in the two waiting states. -/
theorem waitingStatesStay : Obligations.WaitingStatesStay := by
  intro s hturn hst
  rw [step_of_seqTurn hturn]
  exact seqStep_of_waiting (s := { s with hostEvents := s.laterEvents }) hst

/-- Settles O43: the command Reset is `State.resetRegisters`. -/
theorem resetSetsEveryRegister : Obligations.ResetSetsEveryRegister :=
  ⟨fun _ _ hev => ⟨_, step_of_command hev, resetValues_resetRegisters _⟩,
    resetValues_resetRegisters State.reset⟩

/-- Settles O46: the command Pull is `State.pull`. -/
theorem pullOnlyTakesAPresentedRecord : Obligations.PullOnlyTakesAPresentedRecord := by
  intro s rest hev
  refine ⟨fun hst => ?_, fun hst => ?_⟩ <;> rw [step_of_command hev, hostCommand]
  · rw [State.pull_st_frameEmitted { s with hostEvents := rest } hst]
  · rw [State.pull_other { s with hostEvents := rest } hst]

end Sys2Proof.Machine
end

section
/-!
The family of 60_exceptions.md: every class has an outcome, the classes that are never emitted
resynchronise and leave the rest of the state, `end_status`, and Reset issued with Start. A class is
a BadSync class or one with good sync, and its outcome is the one `headerLength` gives a length.
-/

namespace Sys2Proof.Machine

open Sys2Proof.Claims

section exceptions
variable {s : State} {i : Instr} {p : Nat × (Nat → Instr)}

/-! ## The outcome of any class, in any state (60_exceptions.md R362) -/

/-- A BadSync class is rejected whatever its operand is. -/
theorem exec_badSync (hp : p ∈ badSyncRows) (rest : Nat) (s : State) :
    exec (p.2 rest) s = .next s.resync := by
  simp only [badSyncRows, List.mem_cons, List.not_mem_nil, or_false] at hp
  rcases hp with rfl | rfl | rfl | rfl | rfl | rfl | rfl | rfl | rfl | rfl | rfl <;> rfl

/-- Every class, its operands well-formed or not, has the outcome of some length. -/
theorem exists_exec_eq_headerLength (i : Instr) (s : State) : ∃ r, exec i s = headerLength r s := by
  cases hc : i.classFields with
  | badSync b rest =>
    obtain ⟨p, hp, -, rfl⟩ := exists_badSyncRow_of_classFields hc
    exact ⟨.error .badSync, exec_badSync hp rest s⟩
  | synced bri sri f =>
    rw [eq_decodeSynced_of_classFields hc]
    exact ⟨_, exec_decodeSynced bri sri f s⟩

theorem exists_exec_eq_next (i : Instr) (s : State) : ∃ t, exec i s = .next t := by
  obtain ⟨r, hr⟩ := exists_exec_eq_headerLength i s
  rw [hr]
  rcases headerLength_cases r s with hrej | ⟨l, -, -, -, hemit⟩
  · exact ⟨_, hrej⟩
  · exact ⟨_, hemit⟩

/-! ## The classes that are always rejected (60_exceptions.md R350, R352) -/

theorem lengthByIndices_reservedSampleRate (bri : BitVec 4) (padding : Bool) :
    ∃ k, lengthByIndices bri 3#2 padding = .error k := by
  by_cases hb : bri = 15#4
  · exact ⟨_, if_pos hb⟩
  · exact ⟨_, if_neg hb⟩

/-- A free-format class has length 0 at each of its three sample rates. -/
theorem freeClass_eq_resync {hz : BitVec 16} (hz0 : hz ≠ 0#16) (f : OperandBits) (s : State) :
    freeClass hz f s = .next s.resync := by
  have hlen : frameLength 0#9 true hz f.padding = .ok 0 := if_neg hz0
  rw [freeClass, hlen]
  exact headerDecoded_rejected (.inl rfl)

theorem exec_of_alwaysRejected (hrej : AlwaysRejected i) (s : State) :
    exec i s = .next s.resync := by
  rcases hrej with ⟨p, hp, rest, rfl⟩ | ⟨sri, f, rfl⟩ | ⟨p, hp, f, rfl⟩ | ⟨f, rfl | rfl | rfl⟩
  · exact exec_badSync hp rest s
  · rfl
  · obtain ⟨k, hk⟩ := lengthByIndices_reservedSampleRate p.1 f.padding
    rw [build_of_mem_reservedSampleRateRows hp, exec_decodeSynced, hk]
    rfl
  · exact freeClass_eq_resync (hz := 44100#16) (by decide) f s
  · exact freeClass_eq_resync (hz := 48000#16) (by decide) f s
  · exact freeClass_eq_resync (hz := 32000#16) (by decide) f s

theorem rejectFrame_resync (s : State) : RejectFrame s s.resync :=
  ⟨⟨rfl, rfl, rfl, rfl⟩, rfl, rfl, rfl, rfl, rfl, rfl, fun _ => rfl, rfl, rfl⟩

/-! ## `end_status` (60_exceptions.md R355) -/

theorem outputs_endStatus_of_running (hst : s.st ≠ .exhausted) : (outputs s).endStatus = 0#2 := by
  simp [outputs, endStatus, hst, endStatusCode]

theorem outputs_endStatus_of_exhausted (hst : s.st = .exhausted) :
    (outputs s).endStatus = if s.frameCount = 0 then 2#2 else 1#2 := by
  by_cases hcount : s.frameCount = 0
  · simp [outputs, endStatus, hst, hcount, endStatusCode]
  · simp [outputs, endStatus, hst, hcount, Nat.pos_iff_ne_zero, endStatusCode]

theorem endStatusCode_ne_three (e : EndStatus) : endStatusCode e ≠ 3#2 := by
  cases e <;> decide

end exceptions

/-! ## The obligations -/

/-- Settles O31: the outcome of a length is a next state for every length, and SEQ has a move on
every readable buffer. -/
theorem nothingInTheBufferStopsTheMachine : Obligations.NothingInTheBufferStopsTheMachine := by
  refine ⟨exists_exec_eq_next, fun s hread => ?_⟩
  obtain ⟨t, hmove⟩ := exists_seqMove hread
  exact ⟨t, seqStep_eq_next_iff.2 hmove⟩

/-- Settles O32: each of these classes is `State.resync`. -/
theorem rejectedClassesFrame : Obligations.RejectedClassesFrame := by
  intro i s t hrej hstep
  rw [exec_of_alwaysRejected hrej] at hstep
  cases hstep
  exact ⟨rfl, rfl, rejectFrame_resync s⟩

/-- Settles O52: in `Exhausted` the count decides, and S.LIMIT enters `Exhausted` with the count it
found. -/
theorem endStatusByStateAndCount : Obligations.EndStatusByStateAndCount := by
  refine ⟨fun s => ⟨outputs_endStatus_of_running, fun hst hcount => ?_, fun hst hcount => ?_,
    endStatusCode_ne_three _, outputs_endStatus_of_exhausted s.resetRegisters_st⟩,
    fun s t hst hen hmax hstep => ?_⟩
  · rw [outputs_endStatus_of_exhausted hst, if_neg hcount.ne']
  · rw [outputs_endStatus_of_exhausted hst, if_pos hcount]
  · have hlimit : seqStep s = .next s.stopAtLimit :=
      seqStep_eq_next_iff.2 (.limit hst (s.limitReached_iff.2 ⟨hen, hmax⟩))
    rw [hlimit] at hstep
    cases hstep
    exact ⟨rfl, outputs_endStatus_of_exhausted (s := s.stopAtLimit) rfl⟩

/-- Settles O47: both commands are `State.resetRegisters`. -/
theorem resetWinsOverStart : Obligations.ResetWinsOverStart := by
  rintro s o rest (hev | hev) <;> exact step_of_command hev

end Sys2Proof.Machine
end

section
/-!
The family of 70_reset_and_hazards.md: the state and the outputs after Reset, loading a buffer and
the Start that takes it, and the one fault of an event, a `buf_len` beyond the readable buffer. A
Searching step has a next state exactly where every byte it reads is readable.
-/

namespace Sys2Proof.Machine

open Sys2Proof.Claims

section resetAndHazards
variable {s t : State} {b : Buffer} {a : Nat} {o : StartOperands} {rest : List HostEvent}
  {bytes : List Byte}

/-! ## Reset (70_reset_and_hazards.md R380, R382) -/

/-- With the reset values every field of the invariant but the two about the buffers' form is about
zeros, or about a state other than `Exhausted`. -/
theorem inv_of_resetValues (ht : ResetValues t) (hbuf : t.buf.wf = true)
    (hloaded : t.loaded.wf = true) : t.Inv where
  bufCanonical := hbuf
  loadedCanonical := hloaded
  readable := by simp [State.Readable, ht.bufLen]
  candidate := by simp [ht.st]
  presented := by simp [ht.st]
  record := .inl (congr (congr (congrArg FrameRecord.mk ht.outWord) ht.outStart) ht.outLength)
  bounded := .inr (by rw [ht.cursor, ht.cfgStartOffset])
  counted := by simp [ht.cfgStartOffset, ht.frameCount]
  withinLimit := by simp [ht.limitEn]
  limitOpen := by simp [ht.st]
  limitSeen := by simp [ht.limitHit]

/-- The reset value of `hdr_word` has no sync, so its decode is BadSync. -/
theorem decStatus_of_hdrWord_zero (hw : s.hdrWord = 0#32) : decStatus s = 1#3 := by
  have hbad : decodeHeader 0#32 = .error .badSync := decodeHeader_of_badSync (by decide)
  rw [decStatus, hw, hdecPort_of_error (decodeLen_of_error hbad)]
  rfl

/-! ## Loading a buffer (70_reset_and_hazards.md R385, R390) -/

theorem step_loadBuffer (hev : s.hostEvents = .loadBuffer bytes :: rest) :
    step s = .next (State.load { s with hostEvents := rest } bytes) := by
  simp [step, hev]

/-! ## The fault of a Start (70_reset_and_hazards.md R388) -/

theorem step_start_eq_fault (hev : s.hostEvents = .command (.start o) :: rest)
    (hlen : s.loaded.len < o.bufLen) : step s = .fault .bufLenBeyondBuffer := by
  rw [step_of_command hev]
  exact if_neg hlen.not_ge

theorem seqStep_ne_fault {r : Fault} (hread : s.Readable) : seqStep s ≠ .fault r := by
  obtain ⟨t, hmove⟩ := exists_seqMove hread
  simp [seqStep_eq_next_iff.2 hmove]

theorem start_of_hostCommand_eq_fault {c : HostCommand} {r : Fault}
    (hfault : hostCommand c s = .fault r) : r = .bufLenBeyondBuffer ∧ ∃ o, c = .start o := by
  rcases hostCommand_cases c s with ⟨o, hc, -, he⟩ | ⟨o, -, -, he⟩ | ⟨-, he⟩ | ⟨-, he⟩ <;>
    rw [he] at hfault <;> cases hfault
  exact ⟨rfl, o, hc⟩

/-- On a buffer readable up to `buf_len`, SEQ has a move and the host's only fault is a Start's. -/
theorem start_of_step_eq_fault {r : Fault} (hread : s.Readable) (hfault : step s = .fault r) :
    r = .bufLenBeyondBuffer ∧ ∃ o rest, s.hostEvents = .command (.start o) :: rest := by
  rcases step_cases s with ⟨-, he⟩ | ⟨rest, -, he⟩ | ⟨c, rest, hev, he⟩ | ⟨bytes, rest, -, he⟩ <;>
    rw [he] at hfault
  · exact absurd hfault (seqStep_ne_fault hread)
  · exact absurd hfault (seqStep_ne_fault (s := { s with hostEvents := rest }) hread)
  · obtain ⟨hr, o, rfl⟩ := start_of_hostCommand_eq_fault hfault
    exact ⟨hr, o, rest, hev⟩
  · cases hfault

/-! ## The fault of a Searching step (70_reset_and_hazards.md R388) -/

theorem Buffer.read_eq_none_iff : b.read a = none ↔ b.len ≤ a := by
  rw [← Nat.not_lt, ← b.read_isSome a, Option.not_isSome_iff_eq_none]

theorem two_le_len_of_syncB {v : Bool} (hsync : syncB b a = some v) : a + 2 ≤ b.len := by
  by_contra hshort
  simp [syncB_eq, hshort] at hsync

theorem four_le_len_of_fetch32 {w : Word} (hfetch : fetch32 b a = some w) : a + 4 ≤ b.len := by
  by_contra hshort
  simp [fetch32_eq, hshort] at hfetch

/-- The byte a Searching step without a move misses: the word's last where the sync test passes, the
sync test's last where that test has no answer. -/
theorem exists_unreadable_of_no_move (hst : s.st = .searching) (hl : s.limitReached = false)
    (hroom : s.cursor + 4 ≤ s.bufLen) (hshort : s.buf.len < s.cursor + 4)
    (hstuck : ∀ t, ¬ SeqMove s t) : ∃ a ∈ seqReads s, s.buf.len ≤ a := by
  rw [seqReads_of_room hst hl hroom]
  match hsync : syncB s.buf s.cursor with
  | some true => exact ⟨s.cursor + 3, by simp, by omega⟩
  | some false => exact absurd (.advance hst hl hroom hsync) (hstuck s.advance)
  | none =>
    refine ⟨s.cursor + 1, by simp, ?_⟩
    by_contra hlong
    rw [syncB_eq, if_pos (by omega)] at hsync
    cases hsync

theorem searching_fault_iff (hst : s.st = .searching) :
    seqStep s = .fault .unreadableByte ↔ ∃ a ∈ seqReads s, s.buf.len ≤ a := by
  rcases searchStep_cases s with ⟨hl, he⟩ | ⟨-, hend, he⟩ | ⟨hl, hroom, hsync, he⟩ |
    ⟨hl, hroom, hsync, w, hfetch, he⟩ | ⟨hl, hroom, hshort, he⟩ <;>
    rw [← seqStep_of_searching hst] at he
  · simp [he, seqReads_of_limit hst hl]
  · simp [he, seqReads_of_end hst hend]
  · have hlen := two_le_len_of_syncB hsync
    have hread : s.cursor < s.buf.len ∧ s.cursor + 1 < s.buf.len := by omega
    simpa [he, seqReads_of_room hst hl hroom, hsync] using hread
  · have hlen := four_le_len_of_fetch32 hfetch
    refine iff_of_false (by simp [he]) fun ⟨a, ha, hle⟩ => ?_
    obtain ⟨-, -, hhi⟩ := mem_seqReads ha
    omega
  · exact iff_of_true he (exists_unreadable_of_no_move hst hl hroom hshort fun t hmove => by
      simp [seqStep_eq_next_iff.2 hmove] at he)

end resetAndHazards

/-! ## The obligations -/

/-- Settles O49: a Start tests its `bl` against the loaded length; a state of the invariant is
readable, so SEQ has a move in it; a Searching step has one where it reads readable bytes. -/
theorem unreadableBufferHasNoMove : Obligations.UnreadableBufferHasNoMove := by
  refine ⟨fun s o rest hev => ⟨fun hfault => ?_, step_start_eq_fault hev⟩,
    fun s r hi => start_of_step_eq_fault hi.readable, fun s hst => ?_⟩
  · by_contra hlen
    simp [step_start hev (Nat.not_lt.1 hlen)] at hfault
  · simpa only [Buffer.read_eq_none_iff] using searching_fault_iff hst

/-- Settles O48: the loaded buffer is `Buffer.ofBytes`, and the Start after it makes that one the
scan's. -/
theorem loadedBufferIsTakenByTheNextStart : Obligations.LoadedBufferIsTakenByTheNextStart := by
  refine ⟨fun s bytes rest hev => ?_, fun s bytes o rest hev hlen => ?_⟩
  · exact ⟨Buffer.ofBytes bytes, step_loadBuffer hev, rfl, Buffer.ofBytes_wf bytes,
      Buffer.read_ofBytes bytes⟩
  · exact ⟨_, _, step_loadBuffer hev, step_start rfl hlen, rfl, rfl, rfl, rfl, rfl,
      Buffer.read_ofBytes bytes⟩

/-- Settles O44: the outputs are functions of registers that Reset has set. -/
theorem outputsAfterReset : Obligations.OutputsAfterReset :=
  fun s => ⟨rfl, rfl, outputs_endStatus_of_exhausted s.resetRegisters_st, rfl, rfl,
    decStatus_of_hdrWord_zero s.resetRegisters_hdrWord⟩

/-- Settles O53: `State.reset` has the reset values and two empty buffers. -/
theorem invariantHoldsAtReset : Obligations.InvariantHoldsAtReset :=
  inv_of_resetValues (resetValues_resetRegisters State.reset) rfl rfl

end Sys2Proof.Machine
end
